-- ==== Sys2Proof/Word.lean ====
section
/-! DEFINITION. The word types of the block (00_scope.md R7, R12, R14): every value is unsigned, bit 0 is the least
significant bit, and arithmetic on a width wraps at that width. -/

namespace Sys2Proof

/-- `u8`: a byte of a frame, of the receive buffer or of a descriptor. -/
abbrev Byte := BitVec 8

/-- `u16`: a counter, compare or capture value (R7). -/
abbrev Word := BitVec 16

/-- `u10`: the value of one serial character (R12, R81). -/
abbrev Character := BitVec 10

/-- The operand of an operation descriptor, its bits 31:0 (R88). -/
abbrev Operand := BitVec 32

end Sys2Proof
end

