-- ==== Sys2Proof/Config.lean ====
section
/-! DEFINITION. The parameters of the block (00_scope.md R8 to R13). Those the source gives no value are opaque
constants, so that no proof can see what they are. A machine instance holds its parameters as plain data (`Params`),
so that a statement over every state is a statement over every instance. -/

namespace Sys2Proof

/-- The operating mode (10_state.md R43): exactly one is active at a time. -/
inductive Mode where
  | continuousCapture
  | calibrationCapture
deriving DecidableEq, Repr, Inhabited

/-- What TORQUE_ISR hands to ROT_PAYLOAD (10_state.md R47). It is not state. -/
structure RotationSample where
  rotationEventCounter : Byte
  torqueTicks : Word
  timeStampHalfUnits : Word
deriving DecidableEq, Repr

/-- The bit period T as a parameter (R8), sorted by whether the model admits it. `admitted k` is T = k + 2, which is
2..43690; `outside n` is the n-th natural number outside that range. Every natural number is exactly one of the two. -/
inductive BitPeriod where
  | admitted (k : Fin 43689)
  | outside (n : Nat)
deriving DecidableEq, Repr

/-- One field of a payload, with its value: an 8-bit one, or a 16-bit one, which stands in the payload as its low byte
and then its high byte (20_memory.md R63). -/
inductive PayloadField where
  | byte (b : Byte)
  | word (w : Word)
deriving DecidableEq, Repr

/-- One item of a rotation payload's layout as data: a constant byte or a field of the sample. -/
inductive RotItem where
  | literal (b : Byte)
  | rotationEventCounter
  | torqueTicks
  | timeStampHalfUnits
deriving DecidableEq, Repr

/-- One item of a calibration payload's layout as data: a constant byte or the offset. -/
inductive CalItem where
  | literal (b : Byte)
  | offset
deriving DecidableEq, Repr

/-- The parameters of one machine instance. A layout of `none` is the open payload builder of the source
(`Config.rotFields`, `Config.calFields`); `some` is an instance whose builder lays these items out in order. -/
structure Params where
  bitPeriod : BitPeriod
  maskTicks : Word
  initialMode : Mode
  rotLayout : Option (List RotItem)
  calLayout : Option (List CalItem)
deriving DecidableEq, Repr

/-- BIT_PERIOD less 2: the source gives no value (R8), and an admitted T is 2..43690. -/
opaque Config.bitPeriod : Fin 43689

/-- MASK_TICKS (R10): OPEN. -/
opaque Config.maskTicks : Word

/-- INITIAL_MODE (R13): OPEN. -/
opaque Config.initialMode : Mode

/-- ROT_PAYLOAD (R13): OPEN; its layouts are not in the source (91_not_in_source.md N1). Any function of the sample to a
list of fields: how many there are, which stands where, and what each holds is open. Only the byte order of a 16-bit
field is not (R63; notes/assumptions/8.md). -/
opaque Config.rotFields : RotationSample → List PayloadField

/-- CAL_PAYLOAD (R13): OPEN, any function of the offset to a list of fields. -/
opaque Config.calFields : Word → List PayloadField

/-- CLOCK_HZ, the counter's tick rate (R8): OPEN. No rule reads it but through T. -/
opaque Config.clockHz : Nat

/-- BAUD's reference value (R9; 90_conflicts.md C4). No rule reads it but through T. -/
def Config.referenceBaud : Nat := 4800

/-- CAL_PERIOD (R13): OPEN. The block never reads it. -/
opaque Config.calPeriod : Nat

/-- PULSE_THRESHOLD (R11): fixed. -/
def Config.pulseThreshold : Word := 13

/-- SYNC (R12). -/
def Config.sync : Byte := 0xA4

/-- The parameters at `State.reset`: all open. -/
def Config.params : Params where
  bitPeriod := .admitted Config.bitPeriod
  maskTicks := Config.maskTicks
  initialMode := Config.initialMode
  rotLayout := none
  calLayout := none

end Sys2Proof
end

