-- ==== Sys2Proof/Syntax.lean ====
section
/-! DEFINITION. The operations of the block as syntax: one constructor for each row of spec/opcode_table.json
(30_encoding.md R90). -/

namespace Sys2Proof

/-- An operation with its operands. Levels are `true` for mark (1) and `false` for space (0). -/
inductive Instr where
  /-- TICK (41_uart_tx.md R125): one tick of the counter. -/
  | tick
  /-- RX_LINE (42_uart_rx.md R150): the environment drives the receive line. -/
  | rxLine (level : Bool)
  /-- RX_READ (42_uart_rx.md R154): the consumer takes the received byte. -/
  | rxRead
  /-- TORQUE_EDGE (44_capture.md R200): an edge on the torque-tick input. -/
  | torqueEdge
  /-- CAL_EXPIRY (44_capture.md R215): an expiry of the calibration timer. -/
  | calExpiry
  /-- MODE_EDGE (44_capture.md R210): an edge on the mode-control input. -/
  | modeEdge
  /-- FG_SEND (41_uart_tx.md R123): the foreground sends one byte. -/
  | fgSend (b : Byte)
  /-- FG_FRAME (43_framer.md R182): the foreground sends a frame. -/
  | fgFrame (payload : List Byte)
  /-- RESET (70_reset_and_hazards.md R280). -/
  | reset
  /-- TX_ISR (41_uart_tx.md R127): the transmit compare handler. -/
  | txIsr
  /-- RX_ISR (42_uart_rx.md R153): the receive capture/compare handler. -/
  | rxIsr
  /-- TORQUE_ISR (44_capture.md R201): the pulse-edge handler. -/
  | torqueIsr
  /-- CAL_ISR (44_capture.md R216): the calibration handler. -/
  | calIsr
  /-- CTX_SEND (41_uart_tx.md R122): the top context's send setup of one byte. -/
  | ctxSend
  /-- ELAPSED (40_elapsed.md R110). -/
  | elapsed (finish start : Word)
  /-- TX_PACK (41_uart_tx.md R121). -/
  | txPack (b : Byte)
  /-- CHECKSUM (43_framer.md R180). -/
  | checksum (xs : List Byte)
  /-- FRAME_BUILD (43_framer.md R181). -/
  | frameBuild (payload : List Byte)
  /-- CLASSIFY (44_capture.md R202). -/
  | classify (gap : Word)
deriving DecidableEq, Repr

/-- The mnemonics of the opcode map (R90), without operands. -/
inductive Op where
  | tick | rxLine | rxRead | torqueEdge | calExpiry | modeEdge | fgSend | fgFrame | reset
  | txIsr | rxIsr | torqueIsr | calIsr | ctxSend | elapsed | txPack | checksum | frameBuild | classify
deriving DecidableEq, Repr

/-- The operand formats of R88. -/
inductive Format where
  | N | B | L | W | E | FR
deriving DecidableEq, Repr

/-- The reasons of a model-level refusal (60_exceptions.md R241), codes 1 to 5. -/
inductive Reason where
  | illegalOpcode
  | reservedOperandBits
  | badCount
  | badPayloadLength
  | badParameter
deriving DecidableEq, Repr

/-- The code of a reason in the table of R241. -/
def Reason.code : Reason → Nat
  | .illegalOpcode => 1
  | .reservedOperandBits => 2
  | .badCount => 3
  | .badPayloadLength => 4
  | .badParameter => 5

end Sys2Proof
end

