-- ==== Sys2Proof/WellFormed.lean ====
section
/-! DEFINITION. Which operations a descriptor can carry (30_encoding.md R89): the byte count of FG_FRAME and
FRAME_BUILD is 1..256, that of CHECKSUM is 0..256. Every other operand has exactly its field's width. -/

namespace Sys2Proof

/-- The admitted payload lengths of FG_FRAME and FRAME_BUILD (R89, R181). -/
def payloadLengthOk (payload : List Byte) : Bool :=
  decide (1 ≤ payload.length) && decide (payload.length ≤ 256)

/-- The admitted list lengths of CHECKSUM (R89, R180). -/
def checksumLengthOk (xs : List Byte) : Bool :=
  decide (xs.length ≤ 256)

/-- The check on one operation. -/
def Instr.wellFormed : Instr → Bool
  | .tick => true
  | .rxLine _ => true
  | .rxRead => true
  | .torqueEdge => true
  | .calExpiry => true
  | .modeEdge => true
  | .fgSend _ => true
  | .fgFrame payload => payloadLengthOk payload
  | .reset => true
  | .txIsr => true
  | .rxIsr => true
  | .torqueIsr => true
  | .calIsr => true
  | .ctxSend => true
  | .elapsed _ _ => true
  | .txPack _ => true
  | .checksum xs => checksumLengthOk xs
  | .frameBuild payload => payloadLengthOk payload
  | .classify _ => true

end Sys2Proof
end

