-- ==== Sys2Proof/Machine/Operands.lean ====
section
/-! DEFINITION. The operand forms of a descriptor (30_encoding.md R88, R89): for each format, which operand bits must be
0, how the fields are read from the 32-bit operand, and how they are laid into it. No operand is sign-extended, scaled
or shifted. -/

namespace Sys2Proof.Machine

/-- The bits a format marks as 0 are 0 (R88; the refusal for a set one is R92). -/
def reservedBitsClear (f : Format) (x : Operand) : Bool :=
  match f with
  | .N => x == 0
  | .B => x >>> 8 == 0
  | .L => x >>> 1 == 0
  | .W => x >>> 16 == 0
  | .E => true
  | .FR => x >>> 9 == 0

/-- Format B: byte b in bits 7:0. -/
def operandByte (x : Operand) : Byte := x.extractLsb' 0 8

/-- Format L: level v in bit 0, 1 = mark. -/
def operandLevel (x : Operand) : Bool := x.getLsbD 0

/-- Format W: the 16-bit value in bits 15:0. -/
def operandWord (x : Operand) : Word := x.extractLsb' 0 16

/-- Format E: `end` in bits 31:16. -/
def operandEnd (x : Operand) : Word := x.extractLsb' 16 16

/-- Format E: `start` in bits 15:0. -/
def operandStart (x : Operand) : Word := x.extractLsb' 0 16

/-- Format FR: the byte count n in bits 8:0, an unsigned 9-bit value. -/
def operandCount (x : Operand) : Nat := (x.extractLsb' 0 9).toNat

/-- How many bytes follow the 40-bit word (R94): n for FR, none for the others. -/
def followingBytes (f : Format) (x : Operand) : Nat :=
  match f with
  | .FR => operandCount x
  | .N => 0
  | .B => 0
  | .L => 0
  | .W => 0
  | .E => 0

/-- The operand of an operation, laid out by its format. -/
def operandOf : Instr → Operand
  | .tick => 0
  | .rxLine level => BitVec.ofNat 32 level.toNat
  | .rxRead => 0
  | .torqueEdge => 0
  | .calExpiry => 0
  | .modeEdge => 0
  | .fgSend b => b.setWidth 32
  | .fgFrame payload => BitVec.ofNat 32 payload.length
  | .reset => 0
  | .txIsr => 0
  | .rxIsr => 0
  | .torqueIsr => 0
  | .calIsr => 0
  | .ctxSend => 0
  | .elapsed finish start => finish ++ start
  | .txPack b => b.setWidth 32
  | .checksum xs => BitVec.ofNat 32 xs.length
  | .frameBuild payload => BitVec.ofNat 32 payload.length
  | .classify gap => gap.setWidth 32

/-- The bytes that follow the word of an operation (R88, R94). -/
def payloadOf : Instr → List Byte
  | .tick => []
  | .rxLine _ => []
  | .rxRead => []
  | .torqueEdge => []
  | .calExpiry => []
  | .modeEdge => []
  | .fgSend _ => []
  | .fgFrame payload => payload
  | .reset => []
  | .txIsr => []
  | .rxIsr => []
  | .torqueIsr => []
  | .calIsr => []
  | .ctxSend => []
  | .elapsed _ _ => []
  | .txPack _ => []
  | .checksum xs => xs
  | .frameBuild payload => payload
  | .classify _ => []

end Sys2Proof.Machine
end

