-- ==== Sys2Proof/Decode.lean ====
section
/-! DEFINITION. The operation descriptor (30_encoding.md R88 to R94): decoding the front of the descriptor stream, and
the encoder written from the same tables. The 40-bit word stands in the stream opcode byte first, then its operand from
the most significant byte down (DEDUCED, unsafe; notes/assumptions/2.md), and an FR word is followed by its n bytes. -/

namespace Sys2Proof

open Machine

/-- The opcode map (R90): bits 39:32 of the word. -/
def Op.code : Op → Byte
  | .tick => 0x01
  | .rxLine => 0x10
  | .rxRead => 0x11
  | .torqueEdge => 0x20
  | .calExpiry => 0x21
  | .modeEdge => 0x22
  | .fgSend => 0x30
  | .fgFrame => 0x31
  | .reset => 0x3F
  | .txIsr => 0x40
  | .rxIsr => 0x41
  | .torqueIsr => 0x42
  | .calIsr => 0x43
  | .ctxSend => 0x44
  | .elapsed => 0x80
  | .txPack => 0x81
  | .checksum => 0x82
  | .frameBuild => 0x83
  | .classify => 0x84

/-- The format column of the opcode map (R90). -/
def Op.format : Op → Format
  | .tick => .N
  | .rxLine => .L
  | .rxRead => .N
  | .torqueEdge => .N
  | .calExpiry => .N
  | .modeEdge => .N
  | .fgSend => .B
  | .fgFrame => .FR
  | .reset => .N
  | .txIsr => .N
  | .rxIsr => .N
  | .torqueIsr => .N
  | .calIsr => .N
  | .ctxSend => .N
  | .elapsed => .E
  | .txPack => .B
  | .checksum => .FR
  | .frameBuild => .FR
  | .classify => .W

/-- The rows of the opcode map. -/
def Op.all : List Op :=
  [.tick, .rxLine, .rxRead, .torqueEdge, .calExpiry, .modeEdge, .fgSend, .fgFrame, .reset, .txIsr, .rxIsr, .torqueIsr,
    .calIsr, .ctxSend, .elapsed, .txPack, .checksum, .frameBuild, .classify]

/-- The operation of an opcode; `none` for the reserved ones (R91). -/
def Op.ofByte (code : Byte) : Option Op :=
  Op.all.find? fun op => op.code == code

/-- The mnemonic of an operation. -/
def Instr.op : Instr → Op
  | .tick => .tick
  | .rxLine _ => .rxLine
  | .rxRead => .rxRead
  | .torqueEdge => .torqueEdge
  | .calExpiry => .calExpiry
  | .modeEdge => .modeEdge
  | .fgSend _ => .fgSend
  | .fgFrame _ => .fgFrame
  | .reset => .reset
  | .txIsr => .txIsr
  | .rxIsr => .rxIsr
  | .torqueIsr => .torqueIsr
  | .calIsr => .calIsr
  | .ctxSend => .ctxSend
  | .elapsed _ _ => .elapsed
  | .txPack _ => .txPack
  | .checksum _ => .checksum
  | .frameBuild _ => .frameBuild
  | .classify _ => .classify

/-- What stands at the front of a descriptor stream. -/
inductive Decoded where
  /-- An operation, and the stream after its descriptor. -/
  | instr (i : Instr) (rest : List Byte)
  /-- A descriptor refused for a reason of R241, and the stream after it. -/
  | refused (reason : Reason) (rest : List Byte)
  /-- The stream is empty. -/
  | ended
  /-- Fewer bytes than the descriptor needs. -/
  | incomplete
deriving DecidableEq, Repr

/-- An FR descriptor whose count is n, admitted from `least` to 256 (R89, R92, R94): n bytes follow the word. -/
def decodeList (least n : Nat) (mk : List Byte → Instr) (rest : List Byte) : Decoded :=
  if n < least ∨ 256 < n then .refused .badCount (rest.drop n)
  else if rest.length < n then .incomplete
  else .instr (mk (rest.take n)) (rest.drop n)

/-- The operation of a word whose opcode is legal and whose reserved bits are 0 (R89). -/
def decodeOperand (op : Op) (x : Operand) (rest : List Byte) : Decoded :=
  match op with
  | .tick => .instr .tick rest
  | .rxLine => .instr (.rxLine (operandLevel x)) rest
  | .rxRead => .instr .rxRead rest
  | .torqueEdge => .instr .torqueEdge rest
  | .calExpiry => .instr .calExpiry rest
  | .modeEdge => .instr .modeEdge rest
  | .fgSend => .instr (.fgSend (operandByte x)) rest
  | .fgFrame => decodeList 1 (operandCount x) .fgFrame rest
  | .reset => .instr .reset rest
  | .txIsr => .instr .txIsr rest
  | .rxIsr => .instr .rxIsr rest
  | .torqueIsr => .instr .torqueIsr rest
  | .calIsr => .instr .calIsr rest
  | .ctxSend => .instr .ctxSend rest
  | .elapsed => .instr (.elapsed (operandEnd x) (operandStart x)) rest
  | .txPack => .instr (.txPack (operandByte x)) rest
  | .checksum => decodeList 0 (operandCount x) .checksum rest
  | .frameBuild => decodeList 1 (operandCount x) .frameBuild rest
  | .classify => .instr (.classify (operandWord x)) rest

/-- The checks of R92 in their order: opcode, reserved bits, then count. A refused descriptor takes 5 bytes of the
stream, and n more when its opcode has format FR (DESIGN CHOICE, unsafe; notes/assumptions/6.md). -/
def decodeWord (code : Byte) (x : Operand) (rest : List Byte) : Decoded :=
  match Op.ofByte code with
  | none => .refused .illegalOpcode rest
  | some op =>
    if reservedBitsClear op.format x then decodeOperand op x rest
    else .refused .reservedOperandBits (rest.drop (followingBytes op.format x))

/-- Read the descriptor at the front of a stream (R94). -/
def decode : List Byte → Decoded
  | [] => .ended
  | code :: b3 :: b2 :: b1 :: b0 :: rest => decodeWord code (b3 ++ b2 ++ b1 ++ b0) rest
  | _ => .incomplete

/-- The four bytes of an operand, most significant first. -/
def operandBytes (x : Operand) : List Byte :=
  [x.extractLsb' 24 8, x.extractLsb' 16 8, x.extractLsb' 8 8, x.extractLsb' 0 8]

/-- The descriptor of an operation (R88, R90, R94). -/
def encode (i : Instr) : List Byte :=
  i.op.code :: operandBytes (operandOf i) ++ payloadOf i

/-- The descriptor whose bits are `w`, laid out as the stream holds it. Bits 39:0 are the 40-bit word. For an FR opcode
the n bytes that follow take the bits from 40 up, the first the lowest; bits at or above `nbits` are 0. -/
def tableBytes (nbits w : Nat) : List Byte :=
  let v := w % 2 ^ nbits
  let x := BitVec.ofNat 32 v
  let code := BitVec.ofNat 8 (v >>> 32)
  let n := match Op.ofByte code with
    | some op => followingBytes op.format x
    | none => 0
  code :: operandBytes x ++ (List.range n).map fun k => BitVec.ofNat 8 (v >>> (40 + 8 * k))

/-- The operation the decoder reads from a descriptor's bits, numbered as spec/opcode_table.json numbers them. -/
def decodeTableWord (nbits w : Nat) : Option Instr :=
  match decode (tableBytes nbits w) with
  | .instr i _ => some i
  | .refused _ _ => none
  | .ended => none
  | .incomplete => none

end Sys2Proof
end

