-- ==== Sys2Proof/Machine/State.lean ====
section
/-! DEFINITION. The state of the block (10_state.md R20 to R47), the reasons a run can stop, and the state after reset
(R49). Names are the spec's. A 1-bit element is a `Bool`, `true` for 1; a line level is `true` for mark. -/

namespace Sys2Proof.Machine

/-- Whose blocking send a context is (R45): the foreground, the torque handler or the calibration handler. -/
inductive Who where
  | FG | TQ | CAL
deriving DecidableEq, Repr

/-- A sending context (R45): the bytes of its frame still to be sent, in order. -/
structure Context where
  who : Who
  bytes : List Byte
deriving DecidableEq, Repr

/-- What CLASSIFY answers (44_capture.md R202). -/
inductive GapClass where
  | newGroup
  | sameGroup
deriving DecidableEq, Repr

/-- One outward observation (R52), or the result of an operation that has one. Not state of the block. -/
inductive Output where
  /-- TXOUT changed to `level` at the TICK that made CNT `cnt` (R52). -/
  | line (cnt : Word) (level : Bool)
  /-- `emit Frame(bytes)` (00_scope.md R15). -/
  | frame (bytes : List Byte)
  /-- The byte whose send setup a CTX_SEND performed (R52). -/
  | sent (b : Byte)
  /-- The result of RX_READ (42_uart_rx.md R154). -/
  | received (rxbuf : Byte) (rxfull : Bool)
  /-- The result of ELAPSED (40_elapsed.md R110). -/
  | elapsed (ticks : Word)
  /-- The result of TX_PACK (41_uart_tx.md R121). -/
  | packed (c : Character)
  /-- The result of CHECKSUM (43_framer.md R180). -/
  | checksum (x : Byte)
  /-- The result of FRAME_BUILD (43_framer.md R181). -/
  | built (bytes : List Byte)
  /-- The result of CLASSIFY (44_capture.md R202). -/
  | classified (c : GapClass)
  /-- The reason a refusal reports (60_exceptions.md R241). -/
  | refusal (reason : Reason)
deriving DecidableEq, Repr

/-- The whole machine. `params` never changes; `script` and `outputs` are the model's own (notes/assumptions/1.md,
notes/assumptions/9.md); every other field is an element of 10_state.md. -/
structure State where
  /-- The parameters of this instance (00_scope.md R8, R10, R13). -/
  params : Params
  /-- CNT (R22). -/
  cnt : Word
  /-- TXCCR (R23). -/
  txccr : Word
  /-- TXIE, the busy flag (R24, R28). -/
  txie : Bool
  /-- TXIFG (R24). -/
  txifg : Bool
  /-- TXOUTMOD (R24): `true` = SET. -/
  txoutmod : Bool
  /-- TXOUT (R24). -/
  txout : Bool
  /-- RXCCR (R25). -/
  rxccr : Word
  /-- RXIE (R27). -/
  rxie : Bool
  /-- RXIFG (R27). -/
  rxifg : Bool
  /-- RXCAP (R27): `true` = capture mode. -/
  rxcap : Bool
  /-- RXSCCI (R27). -/
  rxscci : Bool
  /-- RXIN (R27). -/
  rxin : Bool
  /-- TXSHIFT (R29). -/
  txshift : Character
  /-- TXBITCNT (R30). -/
  txbitcnt : BitVec 4
  /-- RXSHIFT (R31). -/
  rxshift : Byte
  /-- RXBITCNT (R32). -/
  rxbitcnt : BitVec 4
  /-- RXBUF (R33). -/
  rxbuf : Byte
  /-- RXFULL (R34). -/
  rxfull : Bool
  /-- WAKE (R35). -/
  wake : Bool
  /-- PULSECOUNT (R36). -/
  pulsecount : Word
  /-- TORQUETICKET (R37). -/
  torqueticket : Word
  /-- LASTEDGE (R38). -/
  lastedge : Word
  /-- LASTTX (R39). -/
  lasttx : Word
  /-- ROTCNT (R40). -/
  rotcnt : Byte
  /-- CALOFFSET (R41). -/
  caloffset : Word
  /-- INDICATOR (R42). -/
  indicator : Bool
  /-- MODE (R43). -/
  mode : Mode
  /-- CALIE (R43). -/
  calie : Bool
  /-- TQPEND (R44). -/
  tqpend : Bool
  /-- CALPEND (R44). -/
  calpend : Bool
  /-- CTX (R45). The head of the list is the top of the stack (notes/assumptions/11.md). -/
  ctx : List Context
  /-- REFUSED (R46). -/
  refused : Bool
  /-- The descriptor stream (30_encoding.md R94): the operations still to be taken, the next one first. -/
  script : List Byte
  /-- The observations so far, newest first. -/
  outputs : List Output
deriving DecidableEq, Repr

/-- Why a run stops without a next state. None is a fault of the hardware, which raises none (60_exceptions.md R240):
each says that the operation the script names has no step in this state (00_scope.md R15, R16: stuck), or that the
script names none. All are safe: the model ends the run where the spec gives no step. -/
inductive Fault where
  /-- CTX_SEND while TXIE = 1 (41_uart_tx.md R122, R124). Raised by `execCtxSend`. Safe. -/
  | ctxSendBusy
  /-- CTX_SEND while CTX is empty (R122). Raised by `execCtxSend`. Safe. -/
  | ctxSendNoContext
  /-- CTX_SEND while the top context holds no byte, which R45 excludes. Raised by `execCtxSend`. Safe. -/
  | ctxSendExhausted
  /-- FG_SEND, FG_FRAME or RX_READ while CTX is not empty (60_exceptions.md R247(c)). Raised by `execFgSend`,
  `execFgFrame` and `execRxRead`. Safe. -/
  | foregroundBlocked
  /-- TX_ISR while it is not enabled (41_uart_tx.md R127). Raised by `execTxIsr`. Safe. -/
  | txIsrNotEnabled
  /-- RX_ISR while it is not enabled (42_uart_rx.md R153). Raised by `execRxIsr`. Safe. -/
  | rxIsrNotEnabled
  /-- TORQUE_ISR while it is not enabled (44_capture.md R201). Raised by `execTorqueIsr`. Safe. -/
  | torqueIsrNotEnabled
  /-- CAL_ISR while it is not enabled (44_capture.md R216). Raised by `execCalIsr`. Safe. -/
  | calIsrNotEnabled
  /-- The script is empty: the run is over (60_exceptions.md R254). Raised by `step`. Safe. -/
  | scriptEnded
  /-- The script ends inside a descriptor (30_encoding.md R94). Raised by `step`. Safe. -/
  | scriptIncomplete
deriving DecidableEq, Repr

/-- A refusal of the model itself. The refusals of 60_exceptions.md R241 are next states that set REFUSED, not these. -/
inductive Refusal where
  /-- The instruction has no meaning yet. Raised by `exec` for an arm rejected by name; no arm is. Safe. -/
  | notModelled (mnemonic : String)
deriving DecidableEq, Repr

/-- MODE as a bit (R43): 0 = ContinuousCapture, 1 = CalibrationCapture. -/
def modeBit : Mode → Bool
  | .continuousCapture => false
  | .calibrationCapture => true

/-- The table of R49 for an instance with the given parameters, nothing scripted and nothing observed yet. -/
def State.initial (p : Params) : State where
  params := p
  cnt := 0
  txccr := 0
  txie := false
  txifg := false
  txoutmod := true
  txout := true
  rxccr := 0
  rxie := true
  rxifg := false
  rxcap := true
  rxscci := false
  rxin := true
  txshift := 0
  txbitcnt := 0
  rxshift := 0
  rxbitcnt := 8
  rxbuf := 0
  rxfull := false
  wake := false
  pulsecount := 0
  torqueticket := 0
  lastedge := 0
  lasttx := 0
  rotcnt := 0
  caloffset := 0
  indicator := false
  mode := p.initialMode
  calie := modeBit p.initialMode
  tqpend := false
  calpend := false
  ctx := []
  refused := false
  script := []
  outputs := []

/-- The machine right after reset, every parameter open. -/
def State.reset : State := State.initial Config.params

end Sys2Proof.Machine
end

