-- ==== Sys2Proof/Machine/Ops.lean ====
section
/-! DEFINITION. The operations the meanings share: the parameters as values (00_scope.md R8, R13), the observation
record (10_state.md R52), refusals (60_exceptions.md R241), and the stack of sending contexts (10_state.md R45). The block
has no memory and no register file (20_memory.md R60, 10_state.md R20), so there is no load, store or register operation.
It raises no exception (60_exceptions.md R240): what a handler's entry does is in Flags.lean (R243, R245), and a
handler's return is the pop of its context (R246), `nextByte`. -/

namespace Sys2Proof.Machine

/-- T, the bit period in counter ticks (R8). -/
def bitPeriodTicks : BitPeriod → Nat
  | .admitted k => k.val + 2
  | .outside n => if n < 2 then n else n + 43689

/-- The parameter whose value is `t` ticks. -/
def bitPeriodOfTicks (t : Nat) : BitPeriod :=
  if h : 2 ≤ t ∧ t ≤ 43690 then .admitted ⟨t - 2, by omega⟩
  else .outside (if t < 2 then t else t - 43689)

/-- T = floor(CLOCK_HZ / BAUD) (R8). -/
def bitPeriodOf (clockHz baud : Nat) : BitPeriod := bitPeriodOfTicks (clockHz / baud)

/-- The model admits 2 <= T <= 43690 (R8). -/
def admittedPeriod : BitPeriod → Bool
  | .admitted _ => true
  | .outside _ => false

/-- T of a machine instance. -/
def bitTicks (s : State) : Nat := bitPeriodTicks s.params.bitPeriod

/-- HALF = floor(T / 2) (R8). -/
def halfTicks (s : State) : Nat := bitTicks s / 2

/-- `trunc_16(v + n)` for a counter value `v` and a number of ticks `n` (R7). -/
def advance (v : Word) (n : Nat) : Word := v + BitVec.ofNat 16 n

/-- A 16-bit field in a payload: its low byte, then its high byte (20_memory.md R63). -/
def littleEndian (w : Word) : List Byte := [w.extractLsb' 0 8, w.extractLsb' 8 8]

/-- The bytes of one field of a payload (20_memory.md R63). -/
def fieldBytes : PayloadField → List Byte
  | .byte b => [b]
  | .word w => littleEndian w

/-- An item of a rotation layout, for one sample. -/
def rotItemField (x : RotationSample) : RotItem → PayloadField
  | .literal b => .byte b
  | .rotationEventCounter => .byte x.rotationEventCounter
  | .torqueTicks => .word x.torqueTicks
  | .timeStampHalfUnits => .word x.timeStampHalfUnits

/-- An item of a calibration layout, for one offset. -/
def calItemField (offset : Word) : CalItem → PayloadField
  | .literal b => .byte b
  | .offset => .word offset

/-- The fields an instance's rotation builder puts into a payload, in order (R13; notes/assumptions/8.md). -/
def rotFields (p : Params) (x : RotationSample) : List PayloadField :=
  match p.rotLayout with
  | none => Config.rotFields x
  | some items => items.map (rotItemField x)

/-- The fields an instance's calibration builder puts into a payload, in order (R13; notes/assumptions/8.md). -/
def calFields (p : Params) (offset : Word) : List PayloadField :=
  match p.calLayout with
  | none => Config.calFields offset
  | some items => items.map (calItemField offset)

/-- ROT_PAYLOAD of an instance (R13), its 16-bit fields low byte first (R63). -/
def rotPayload (p : Params) (x : RotationSample) : List Byte :=
  (rotFields p x).flatMap fieldBytes

/-- CAL_PAYLOAD of an instance (R13), its 16-bit fields low byte first (R63). -/
def calPayload (p : Params) (offset : Word) : List Byte :=
  (calFields p offset).flatMap fieldBytes

/-- Record an outward observation (R52). -/
def observe (o : Output) (s : State) : State := { s with outputs := o :: s.outputs }

/-- `raise Refuse(reason)` (00_scope.md R15; 60_exceptions.md R241, R248): REFUSED becomes 1, the reason is reported, and
nothing else of the block changes. -/
def refuse (reason : Reason) (s : State) : State := observe (.refusal reason) { s with refused := true }

/-- CTX holds a context of `who` (60_exceptions.md R243: the source's handler is active). -/
def holdsContext (who : Who) (s : State) : Bool := s.ctx.any fun c => c.who == who

/-- `push(CTX, {who, bytes})`. -/
def pushContext (who : Who) (bytes : List Byte) (s : State) : State :=
  { s with ctx := ⟨who, bytes⟩ :: s.ctx }

/-- `emit Frame(f)` and `push(CTX, {who, bytes = f})` (43_framer.md R182; 44_capture.md R201, R216). -/
def sendFrame (who : Who) (f : List Byte) (s : State) : State :=
  pushContext who f (observe (.frame f) s)

/-- The stack after the top context's first byte is taken: `c.bytes <- tail(c.bytes)`, and `pop(CTX)` when none is left
(41_uart_tx.md R122). The pop is the return of a handler whose frame this was (60_exceptions.md R246). -/
def nextByte (who : Who) (later : List Byte) (below : List Context) : List Context :=
  if later.isEmpty then below else ⟨who, later⟩ :: below

end Sys2Proof.Machine
end

