-- ==== Sys2Proof/Machine/Elapsed.lean ====
section
/-! DEFINITION. The elapsed-time unit (40_elapsed.md). -/

namespace Sys2Proof.Machine

/-- ELAPSED(end, start) (40_elapsed.md R110), in natural numbers and truncated at the end. -/
def elapsedTicks (finish start : Word) : Word :=
  BitVec.ofNat 16
    (if start.toNat ≤ finish.toNat then finish.toNat - start.toNat
     else (0xFFFF - start.toNat) + 1 + finish.toNat)

/-- ELAPSED as an operation: it evaluates without changing the block's state (60_exceptions.md R250). -/
def execElapsed (finish start : Word) (s : State) : Host.Outcome State Fault Refusal :=
  .next (observe (.elapsed (elapsedTicks finish start)) s)

end Sys2Proof.Machine
end

