-- ==== Sys2Proof/Machine/Flags.lean ====
section
/-! DEFINITION. The interrupt flags: when a handler is enabled and what its entry clears (60_exceptions.md R242, R243,
R245), the hardware's match and capture actions that set flags (41_uart_tx.md R126; 42_uart_rx.md R150, R151), and the
index view of the state (10_state.md R48). -/

namespace Sys2Proof.Machine

/-- The interrupt sources that have a pending bit (60_exceptions.md R242). The mode-control edge is merged with its
handler and has none. -/
inductive Source where
  | tx | rx | torque | calibration
deriving DecidableEq, Repr

/-- The pending bit of a source (R242). -/
def pending (s : State) : Source → Bool
  | .tx => s.txifg
  | .rx => s.rxifg
  | .torque => s.tqpend
  | .calibration => s.calpend

/-- The enable of a source (R242); the torque-tick edge is always enabled. -/
def enable (s : State) : Source → Bool
  | .tx => s.txie
  | .rx => s.rxie
  | .torque => true
  | .calibration => s.calie

/-- The handler of a source is active while its context is in CTX; TX_ISR and RX_ISR are single steps (R243). -/
def active (s : State) : Source → Bool
  | .tx => false
  | .rx => false
  | .torque => holdsContext .TQ s
  | .calibration => holdsContext .CAL s

/-- A handler step is enabled exactly when its pending bit is 1, its enable is 1 and it is not already active (R243). -/
def handlerEnabled (src : Source) (s : State) : Bool :=
  pending s src && enable s src && !active s src

/-- A handler's entry clears its own pending bit and saves nothing (R245). -/
def enterHandler (src : Source) (s : State) : State :=
  match src with
  | .tx => { s with txifg := false }
  | .rx => { s with rxifg := false }
  | .torque => { s with tqpend := false }
  | .calibration => { s with calpend := false }

/-- TX_MATCH (41_uart_tx.md R126): the line takes the output mode's level and TXIFG is set. A change of the line is an
observation at the new CNT (10_state.md R52). -/
def txMatch (s : State) : State :=
  { s with
    txout := s.txoutmod
    txifg := true
    outputs := if s.txout = s.txoutmod then s.outputs else .line s.cnt s.txoutmod :: s.outputs }

/-- RX_MATCH (42_uart_rx.md R151): the line is latched and RXIFG is set. -/
def rxMatch (s : State) : State :=
  { s with rxscci := s.rxin, rxifg := true }

/-- A capture (42_uart_rx.md R150): CNT is latched into RXCCR and RXIFG is set. -/
def rxCapture (s : State) : State :=
  { s with rxccr := s.cnt, rxifg := true }

/-- A control word from its bits, bit 0 first; bits beyond the list are 0. -/
def packBits (bits : List Bool) : Byte :=
  bits.foldr (fun b acc => (acc <<< 1) ||| BitVec.ofNat 8 b.toNat) 0

/-- TXCTL (R48): 0 TXIE, 1 TXIFG, 2 TXOUTMOD, 3 TXOUT; 7:4 read as 0. -/
def txctl (s : State) : Byte := packBits [s.txie, s.txifg, s.txoutmod, s.txout]

/-- RXCTL (R48): 0 RXIE, 1 RXIFG, 2 RXCAP, 3 RXSCCI, 4 RXIN; 7:5 read as 0. -/
def rxctl (s : State) : Byte := packBits [s.rxie, s.rxifg, s.rxcap, s.rxscci, s.rxin]

/-- STAT (R48): 0 RXFULL, 1 WAKE, 2 TQPEND, 3 CALPEND, 4 MODE, 5 CALIE, 6 INDICATOR, 7 REFUSED. -/
def stat (s : State) : Byte :=
  packBits [s.rxfull, s.wake, s.tqpend, s.calpend, modeBit s.mode, s.calie, s.indicator, s.refused]

/-- The element of an index (R48), zero-extended to 16 bits. No operation reads or writes by index. -/
def element (s : State) (idx : Nat) : Option Word :=
  match idx with
  | 0 => some s.cnt
  | 1 => some s.txccr
  | 2 => some ((txctl s).setWidth 16)
  | 3 => some s.rxccr
  | 4 => some ((rxctl s).setWidth 16)
  | 5 => some (s.txshift.setWidth 16)
  | 6 => some (s.txbitcnt.setWidth 16)
  | 7 => some (s.rxshift.setWidth 16)
  | 8 => some (s.rxbitcnt.setWidth 16)
  | 9 => some (s.rxbuf.setWidth 16)
  | 10 => some ((stat s).setWidth 16)
  | 11 => some s.pulsecount
  | 12 => some s.torqueticket
  | 13 => some s.lastedge
  | 14 => some s.lasttx
  | 15 => some (s.rotcnt.setWidth 16)
  | 16 => some s.caloffset
  | _ => none

end Sys2Proof.Machine
end

