-- ==== Sys2Proof/Machine/Framer.lean ====
section
/-! DEFINITION. The message framer (43_framer.md): CHECKSUM, FRAME_BUILD and FG_FRAME. -/

namespace Sys2Proof.Machine

/-- The running XOR of a byte list, seeded with 0 (43_framer.md R180). -/
def xorBytes (xs : List Byte) : Byte := xs.foldl (fun acc x => acc ^^^ x) 0

/-- The length field of a payload, `trunc_8(len - 1)` (R181). -/
def lengthField (payload : List Byte) : Byte := BitVec.ofNat 8 (payload.length - 1)

/-- `[0xA4, L] ++ payload`, the part of a frame its checksum covers (R181). -/
def frameBody (payload : List Byte) : List Byte := Config.sync :: lengthField payload :: payload

/-- FRAME_BUILD(payload) (R181); `none` is Refuse(BadPayloadLength). A frame has 4 to 259 bytes, payload length + 3 as
R181 and 30_encoding.md R86 say; 20_memory.md R66 says 3 to 258, and no ruling settles which (DESIGN CHOICE, unsafe;
notes/assumptions/17.md). -/
def buildFrame (payload : List Byte) : Option (List Byte) :=
  if payloadLengthOk payload then some (frameBody payload ++ [xorBytes (frameBody payload)]) else none

/-- CHECKSUM as an operation (R180). A list of more than 256 bytes, which no descriptor delivers, is BadCount. -/
def execChecksum (xs : List Byte) (s : State) : Host.Outcome State Fault Refusal :=
  if checksumLengthOk xs then .next (observe (.checksum (xorBytes xs)) s)
  else .next (refuse .badCount s)

/-- FRAME_BUILD as an operation (R181): it evaluates without changing the block's state (60_exceptions.md R250). -/
def execFrameBuild (payload : List Byte) (s : State) : Host.Outcome State Fault Refusal :=
  match buildFrame payload with
  | some f => .next (observe (.built f) s)
  | none => .next (refuse .badPayloadLength s)

/-- FG_FRAME (R182): enabled while CTX is empty. -/
def execFgFrame (payload : List Byte) (s : State) : Host.Outcome State Fault Refusal :=
  if s.ctx.isEmpty then
    match buildFrame payload with
    | some f => .next (sendFrame .FG f s)
    | none => .next (refuse .badPayloadLength s)
  else .fault .foregroundBlocked

end Sys2Proof.Machine
end

