-- ==== Sys2Proof/Machine/Capture.lean ====
section
/-! DEFINITION. The pulse edge-capture and debounce FSM, the mode register and the calibration path (44_capture.md). -/

namespace Sys2Proof.Machine

/-- CLASSIFY(gap) (R202): strictly above MASK_TICKS is a new group. -/
def classifyGap (p : Params) (gap : Word) : GapClass :=
  if p.maskTicks < gap then .newGroup else .sameGroup

/-- CLASSIFY as an operation (R202). -/
def execClassify (gap : Word) (s : State) : Host.Outcome State Fault Refusal :=
  .next (observe (.classified (classifyGap s.params gap)) s)

/-- TORQUE_EDGE (R200): an edge while one is pending is merged with it. -/
def execTorqueEdge (s : State) : Host.Outcome State Fault Refusal :=
  .next { s with tqpend := true }

/-- `min(PULSECOUNT + 1, 0xFFFF)` (10_state.md R36; R204: clamp, not wrap). -/
def saturatingSucc (n : Word) : Word := if n = 0xFFFF then 0xFFFF else n + 1

/-- The counting of one edge (R201): the gap since the previous edge starts a new group or continues the current one. -/
def countEdge (s : State) : State :=
  let s₁ := { s with lastedge := s.cnt }
  match classifyGap s.params (elapsedTicks s.cnt s.lastedge) with
  | .newGroup => { s₁ with torqueticket := s.torqueticket + 1, pulsecount := 1 }
  | .sameGroup => { s₁ with pulsecount := saturatingSucc s.pulsecount }

/-- The sample of a rotation event (R201, 10_state.md R47): the counter after its increment, the ticket before its reset,
and half the time since the last event. -/
def rotationSample (s : State) : RotationSample where
  rotationEventCounter := s.rotcnt + 1
  torqueTicks := s.torqueticket
  timeStampHalfUnits := elapsedTicks s.cnt s.lasttx >>> 1

/-- The pulse state after a rotation event (R201). -/
def recordRotation (s : State) : State :=
  { s with
    rotcnt := s.rotcnt + 1
    torqueticket := 0
    lasttx := s.cnt }

/-- TORQUE_ISR (R201): one atomic step (R205). A payload that FRAME_BUILD refuses refuses the whole step
(60_exceptions.md R248). -/
def execTorqueIsr (s : State) : Host.Outcome State Fault Refusal :=
  if handlerEnabled .torque s then
    let s₁ := countEdge (enterHandler .torque s)
    if s₁.pulsecount = Config.pulseThreshold then
      match buildFrame (rotPayload s.params (rotationSample s₁)) with
      | some f => .next (sendFrame .TQ f (recordRotation s₁))
      | none => .next (refuse .badPayloadLength s)
    else .next s₁
  else .fault .torqueIsrNotEnabled

/-- The other mode (R210). -/
def otherMode : Mode → Mode
  | .continuousCapture => .calibrationCapture
  | .calibrationCapture => .continuousCapture

/-- MODE_EDGE (R210): the mode toggles, CALIE follows it and CALPEND is cleared; nothing is flushed (R211). -/
def execModeEdge (s : State) : Host.Outcome State Fault Refusal :=
  .next { s with mode := otherMode s.mode, calie := modeBit (otherMode s.mode), calpend := false }

/-- CAL_EXPIRY (R215): `if CALIE = 1 then CALPEND <- 1`. -/
def execCalExpiry (s : State) : Host.Outcome State Fault Refusal :=
  .next { s with calpend := s.calpend || s.calie }

/-- CAL_ISR (R216): snapshot TORQUETICKET, toggle the indicator, send a calibration frame. -/
def execCalIsr (s : State) : Host.Outcome State Fault Refusal :=
  if handlerEnabled .calibration s then
    let s₁ := enterHandler .calibration s
    let s₂ := { s₁ with indicator := !s₁.indicator, caloffset := s₁.torqueticket }
    match buildFrame (calPayload s.params s₂.caloffset) with
    | some f => .next (sendFrame .CAL f s₂)
    | none => .next (refuse .badPayloadLength s)
  else .fault .calIsrNotEnabled

end Sys2Proof.Machine
end

