-- ==== Sys2Proof/Machine/Receiver.lean ====
section
/-! DEFINITION. The UART receiver (42_uart_rx.md): RX_LINE, RX_ISR and RX_READ. -/

namespace Sys2Proof.Machine

/-- RX_LINE (R150): only a falling edge in capture mode is captured. -/
def execRxLine (level : Bool) (s : State) : Host.Outcome State Fault Refusal :=
  let s₁ := { s with rxin := level }
  if s.rxcap = true ∧ s.rxin = true ∧ level = false then .next (rxCapture s₁) else .next s₁

/-- RXSHIFT after a sample enters from the top (10_state.md R31). -/
def shiftIn (reg : Byte) (sample : Bool) : Byte := (reg >>> 1) ||| (BitVec.ofNat 8 sample.toNat <<< 7)

/-- The start edge was captured (R153): compare mode, the first sample HALF later, 8 samples to take. -/
def startReception (s : State) : State :=
  { s with
    rxcap := false
    rxccr := advance s.rxccr (halfTicks s)
    rxbitcnt := 8 }

/-- A mid-bit sample was latched (R153). -/
def takeSample (s : State) : State :=
  { s with
    rxshift := shiftIn s.rxshift s.rxscci
    rxbitcnt := s.rxbitcnt - 1 }

/-- The 8th sample completes the byte (R153): store it, wake the foreground, wait for the next start bit. -/
def storeByte (s : State) : State :=
  { s with
    rxbuf := s.rxshift
    rxfull := true
    wake := true
    rxcap := true }

/-- RX_ISR (R153). -/
def execRxIsr (s : State) : Host.Outcome State Fault Refusal :=
  if handlerEnabled .rx s then
    let s₁ := enterHandler .rx s
    let s₂ := { s₁ with rxccr := advance s₁.rxccr (bitTicks s₁) }
    if s₂.rxcap then .next (startReception s₂)
    else
      let s₃ := takeSample s₂
      if s₃.rxbitcnt = 0 then .next (storeByte s₃) else .next s₃
  else .fault .rxIsrNotEnabled

/-- RX_READ (R154): enabled while CTX is empty; its result is (RXBUF, RXFULL) as they were. -/
def execRxRead (s : State) : Host.Outcome State Fault Refusal :=
  if s.ctx.isEmpty then
    .next (observe (.received s.rxbuf s.rxfull) { s with rxfull := false, wake := false })
  else .fault .foregroundBlocked

end Sys2Proof.Machine
end

