-- ==== Sys2Proof/Machine/Reset.lean ====
section
/-! DEFINITION. RESET (70_reset_and_hazards.md R280). -/

namespace Sys2Proof.Machine

/-- Every element takes its value of 10_state.md R49. REFUSED is unchanged (R46), and so are the parameters, the
operations still to be taken and the observations so far, which are not the block's. -/
def resetBlock (s : State) : State :=
  { State.initial s.params with
    refused := s.refused
    script := s.script
    outputs := s.outputs }

/-- RESET (R280): always enabled. -/
def execReset (s : State) : Host.Outcome State Fault Refusal :=
  .next (resetBlock s)

end Sys2Proof.Machine
end

