-- ==== Sys2Proof/Machine/Timer.lean ====
section
/-! DEFINITION. The timer step TICK (41_uart_tx.md R125), which both channels share. -/

namespace Sys2Proof.Machine

/-- CNT after a tick: `trunc_16(CNT + 1)`, wrapping silently (10_state.md R22). -/
def countTick (s : State) : State := { s with cnt := s.cnt + 1 }

/-- The TX channel is always in compare mode (R125). -/
def txCompare (s : State) : State := if s.cnt = s.txccr then txMatch s else s

/-- The RX channel compares only while RXCAP = 0 (R125). -/
def rxCompare (s : State) : State := if s.rxcap = false ∧ s.cnt = s.rxccr then rxMatch s else s

/-- TICK (41_uart_tx.md R125; 10_state.md R26): the compares see the counter after its increment. -/
def execTick (s : State) : Host.Outcome State Fault Refusal :=
  .next (rxCompare (txCompare (countTick s)))

end Sys2Proof.Machine
end

