-- ==== Sys2Proof/Machine/Transmitter.lean ====
section
/-! DEFINITION. The UART transmitter (41_uart_tx.md): TX_PACK, CTX_SEND, FG_SEND and TX_ISR. -/

namespace Sys2Proof.Machine

/-- TX_PACK(b) = (zext_10(b) << 1) | 0x200 (R121; 30_encoding.md R82). -/
def packCharacter (b : Byte) : Character := (b.setWidth 10 <<< 1) ||| 0x200

/-- TX_PACK as an operation (R121). -/
def execTxPack (b : Byte) (s : State) : Host.Outcome State Fault Refusal :=
  .next (observe (.packed (packCharacter b)) s)

/-- The send setup of byte `b` (R122): arm the channel one bit period from now, keep the line at mark for the first
match, and load the shift register. -/
def armTransmitter (b : Byte) (s : State) : State :=
  { s with
    txccr := advance s.cnt (bitTicks s)
    txoutmod := true
    txifg := false
    txie := true
    txshift := packCharacter b
    txbitcnt := 10 }

/-- CTX_SEND (R122): enabled while CTX is non-empty and TXIE = 0; the top context's first byte is set up. -/
def execCtxSend (s : State) : Host.Outcome State Fault Refusal :=
  match s.ctx with
  | [] => .fault .ctxSendNoContext
  | c :: below =>
    if s.txie then .fault .ctxSendBusy
    else
      match c.bytes with
      | [] => .fault .ctxSendExhausted
      | b :: later => .next (observe (.sent b) { armTransmitter b s with ctx := nextByte c.who later below })

/-- FG_SEND (R123): enabled while CTX is empty. -/
def execFgSend (b : Byte) (s : State) : Host.Outcome State Fault Refusal :=
  if s.ctx.isEmpty then .next (pushContext .FG [b] s) else .fault .foregroundBlocked

/-- The bit TX_ISR programs (R127): the next output mode is bit 0 of the shift register. -/
def programBit (s : State) : State :=
  { s with
    txoutmod := s.txshift.getLsbD 0
    txshift := s.txshift >>> 1
    txbitcnt := s.txbitcnt - 1 }

/-- TX_ISR (R127). -/
def execTxIsr (s : State) : Host.Outcome State Fault Refusal :=
  if handlerEnabled .tx s then
    let s₁ := enterHandler .tx s
    let s₂ := { s₁ with txccr := advance s₁.txccr (bitTicks s₁) }
    if s₂.txbitcnt = 0 then .next { s₂ with txie := false } else .next (programBit s₂)
  else .fault .txIsrNotEnabled

end Sys2Proof.Machine
end

