-- ==== Sys2Proof/Machine/Dispatch.lean ====
section
/-! DEFINITION. The meaning of every operation, one arm each. -/

namespace Sys2Proof.Machine

def exec (i : Instr) (s : State) : Host.Outcome State Fault Refusal :=
  match i with
  | .tick => Sys2Proof.Machine.execTick s
  | .rxLine level => Sys2Proof.Machine.execRxLine level s
  | .rxRead => Sys2Proof.Machine.execRxRead s
  | .torqueEdge => Sys2Proof.Machine.execTorqueEdge s
  | .calExpiry => Sys2Proof.Machine.execCalExpiry s
  | .modeEdge => Sys2Proof.Machine.execModeEdge s
  | .fgSend b => Sys2Proof.Machine.execFgSend b s
  | .fgFrame payload => Sys2Proof.Machine.execFgFrame payload s
  | .reset => Sys2Proof.Machine.execReset s
  | .txIsr => Sys2Proof.Machine.execTxIsr s
  | .rxIsr => Sys2Proof.Machine.execRxIsr s
  | .torqueIsr => Sys2Proof.Machine.execTorqueIsr s
  | .calIsr => Sys2Proof.Machine.execCalIsr s
  | .ctxSend => Sys2Proof.Machine.execCtxSend s
  | .elapsed finish start => Sys2Proof.Machine.execElapsed finish start s
  | .txPack b => Sys2Proof.Machine.execTxPack b s
  | .checksum xs => Sys2Proof.Machine.execChecksum xs s
  | .frameBuild payload => Sys2Proof.Machine.execFrameBuild payload s
  | .classify gap => Sys2Proof.Machine.execClassify gap s

end Sys2Proof.Machine
end

