-- ==== Sys2Proof/Machine/Step.lean ====
section
/-! DEFINITION. One step of the machine: the next operation is the descriptor at the front of the script
(30_encoding.md R94), which says which agent moves (60_exceptions.md R250; notes/assumptions/1.md). -/

namespace Sys2Proof.Machine

/-- A step. A refused descriptor, and every operation of an instance whose T is not admitted, sets REFUSED and changes
nothing else of the block (R241, R92). -/
def step (s : State) : Host.Outcome State Fault Refusal :=
  match decode s.script with
  | .instr i rest =>
    if admittedPeriod s.params.bitPeriod then exec i { s with script := rest }
    else .next (refuse .badParameter { s with script := rest })
  | .refused reason rest => .next (refuse reason { s with script := rest })
  | .ended => .fault .scriptEnded
  | .incomplete => .fault .scriptIncomplete

/-- The state with the descriptor whose bits are `w` placed at the front of the script (notes/assumptions/3.md). -/
def State.withFetchWord (s : State) (nbits w : Nat) : State :=
  { s with script := tableBytes nbits w ++ s.script }

end Sys2Proof.Machine
end

