-- ==== Sys2Proof/Safety.lean ====
section
/-! DEFINITION. What a sound state and a sound run are, in the terms the statements use: the invariants of the state
(10_state.md R27, R30, R32, R43, R45), the idle line (41_uart_tx.md R130), runs of operations, and the named premises on
runs (LATENCY_OK of 70_reset_and_hazards.md R301, the loopback wire of 42_uart_rx.md R157). -/

namespace Sys2Proof.Machine

/-- The elements of a state after a RESET, by the table of 10_state.md R49; REFUSED is not among them. -/
structure ResetTable (t : State) : Prop where
  cnt : t.cnt = 0
  txccr : t.txccr = 0
  txie : t.txie = false
  txifg : t.txifg = false
  txoutmod : t.txoutmod = true
  txout : t.txout = true
  rxccr : t.rxccr = 0
  rxie : t.rxie = true
  rxifg : t.rxifg = false
  rxcap : t.rxcap = true
  rxscci : t.rxscci = false
  rxin : t.rxin = true
  txshift : t.txshift = 0
  txbitcnt : t.txbitcnt = 0
  rxshift : t.rxshift = 0
  rxbitcnt : t.rxbitcnt = 8
  rxbuf : t.rxbuf = 0
  rxfull : t.rxfull = false
  wake : t.wake = false
  pulsecount : t.pulsecount = 0
  torqueticket : t.torqueticket = 0
  lastedge : t.lastedge = 0
  lasttx : t.lasttx = 0
  rotcnt : t.rotcnt = 0
  caloffset : t.caloffset = 0
  indicator : t.indicator = false
  mode : t.mode = t.params.initialMode
  calie : t.calie = modeBit t.mode
  tqpend : t.tqpend = false
  calpend : t.calpend = false
  ctx : t.ctx = []

/-- The invariants of CTX (10_state.md R45), head = top: no context is out of bytes, each `who` appears at most once,
and a foreground context is at the bottom. -/
structure ContextsOk (ctx : List Context) : Prop where
  nonempty : ∀ c ∈ ctx, c.bytes ≠ []
  distinct : (ctx.map Context.who).Nodup
  foregroundAtBottom : ∀ c ∈ ctx.dropLast, c.who ≠ .FG

/-- The invariants of the state. -/
structure StateOk (s : State) : Prop where
  /-- TXBITCNT holds 0..10 (10_state.md R30). -/
  txbitcnt : s.txbitcnt ≤ 10
  /-- RXBITCNT holds 0..8 (10_state.md R32). -/
  rxbitcnt : s.rxbitcnt ≤ 8
  /-- RXCAP = 0 implies 1 <= RXBITCNT (42_uart_rx.md R153). -/
  sampling : s.rxcap = false → 1 ≤ s.rxbitcnt
  /-- RXIE is 1 from reset on (10_state.md R27). -/
  rxie : s.rxie = true
  /-- CALIE equals MODE at all times (10_state.md R43). -/
  calie : s.calie = modeBit s.mode
  /-- A calibration expiry is pending only while its interrupt is enabled (44_capture.md R210, R215). -/
  calpend : s.calpend = true → s.calie = true
  /-- WAKE is set and cleared with RXFULL (10_state.md R34, R35). -/
  wake : s.wake = s.rxfull
  /-- The invariants of CTX (10_state.md R45). -/
  contexts : ContextsOk s.ctx

/-- The line between characters is at mark (41_uart_tx.md R130), with what makes that so: the bit that is still to be
programmed last is the stop bit, and it is on the line before the channel is disabled. -/
structure LineOk (s : State) : Prop where
  /-- While the transmitter is not busy the line is at mark, and every later match keeps it there. -/
  idle : s.txie = false → s.txoutmod = true ∧ s.txout = true
  /-- While bits are left, the last of them is the stop bit. -/
  stopLast : s.txie = true → s.txbitcnt ≠ 0 → s.txshift.getLsbD (s.txbitcnt.toNat - 1) = true
  /-- When no bit is left, the stop bit is programmed. -/
  stopProgrammed : s.txie = true → s.txbitcnt = 0 → s.txoutmod = true
  /-- The match that then enables TX_ISR has driven it. -/
  stopDriven : s.txie = true → s.txbitcnt = 0 → s.txifg = true → s.txout = true

/-- Take the operations of a list in order, stopping at the first that has no step. -/
def runOps : List Instr → State → Host.Outcome State Fault Refusal
  | [], s => .next s
  | i :: ops, s =>
    match exec i s with
    | .next t => runOps ops t
    | .fault r => .fault r
    | .refused r => .refused r

/-- The property `p` of an operation and the state it is taken in holds at every operation of a run. -/
def everyStep (p : Instr → State → Bool) : List Instr → State → Bool
  | [], _ => true
  | i :: ops, s =>
    p i s &&
      match exec i s with
      | .next t => everyStep p ops t
      | .fault _ => true
      | .refused _ => true

/-- How many ticks a run takes (70_reset_and_hazards.md R303: the only measure of time). -/
def ticksOf (ops : List Instr) : Nat := ops.count .tick

/-- The TX handler deadline (70_reset_and_hazards.md R290): no TICK brings CNT to TXCCR + T while a match of the busy
channel still waits for TX_ISR. -/
def txInTime (i : Instr) (s : State) : Bool :=
  !(i == .tick && s.txifg && s.txie && s.cnt + 1 == advance s.txccr (bitTicks s))

/-- The RX deadlines (70_reset_and_hazards.md R291, R292): no TICK brings CNT to the next sample point while RX_ISR is
still awaited, and no start edge comes while the 8th sample still waits for RX_ISR. -/
def rxInTime (i : Instr) (s : State) : Bool :=
  !(i == .tick && s.rxifg &&
      s.cnt + 1 == advance s.rxccr (if s.rxcap then bitTicks s + halfTicks s else bitTicks s)) &&
  !(i == .rxLine false && s.rxifg && !s.rxcap && s.rxbitcnt == 1 && s.rxin)

/-- LATENCY_OK (70_reset_and_hazards.md R301) of a run; its part (c) holds by construction. -/
def LatencyOk (ops : List Instr) (s : State) : Prop :=
  everyStep (fun i u => txInTime i u && rxInTime i u) ops s = true

/-- The wire of 42_uart_rx.md R157: RXIN has followed TXOUT before each TICK, and RX_LINE applies TXOUT's level. -/
def wireFollows (i : Instr) (s : State) : Bool :=
  match i with
  | .tick => s.rxin == s.txout
  | .rxLine level => level == s.txout
  | _ => true

/-- The frame of a payload, byte by byte as the table of 30_encoding.md R85 lays it out. -/
def frameLayout (payload : List Byte) : List Byte :=
  let covered : List Byte := [0xA4, BitVec.ofNat 8 (payload.length - 1)] ++ payload
  covered ++ [covered.foldl (· ^^^ ·) 0]

/-- Two neighbouring 8-bit fields spell a 16-bit value high byte first, whatever the builder's argument: the placement
20_memory.md R63 does not admit. -/
def SpellsHighByteFirst {α : Type} (fields : α → List PayloadField) (value : α → Word) : Prop :=
  ∃ k : Nat, ∀ x : α, (fields x)[k]? = some (.byte ((value x).extractLsb' 8 8)) ∧
    (fields x)[k + 1]? = some (.byte ((value x).extractLsb' 0 8))

/-- The builders of an instance are admitted (92_eei_decisions.md D22): every payload has 1 to 256 bytes, and no 16-bit
field is spelled out high byte first (R63). A premise of claims that need it; a builder that is not admitted by its
length is refused in the handler. -/
structure AdmittedBuilders (p : Params) : Prop where
  rotLength : ∀ x, 1 ≤ (rotPayload p x).length ∧ (rotPayload p x).length ≤ 256
  calLength : ∀ offset, 1 ≤ (calPayload p offset).length ∧ (calPayload p offset).length ≤ 256
  torqueTicks : ¬SpellsHighByteFirst (rotFields p) RotationSample.torqueTicks
  timeStampHalfUnits : ¬SpellsHighByteFirst (rotFields p) RotationSample.timeStampHalfUnits
  offset : ¬SpellsHighByteFirst (calFields p) id

/-- The line level after the k-th transmit match of a character (41_uart_tx.md R128): mark before the start bit, then
the ten bits of the character at the matches 2 to 11, then mark. -/
def characterLevel (b : Byte) (k : Nat) : Bool :=
  if 2 ≤ k ∧ k ≤ 11 then (packCharacter b).getLsbD (k - 2) else true

/-- The bytes whose send setups a run has performed, oldest first (10_state.md R52). -/
def sentBytes (s : State) : List Byte :=
  s.outputs.reverse.filterMap fun o =>
    match o with
    | .sent b => some b
    | _ => none

/-- The frames emitted so far, oldest first (10_state.md R52). -/
def emittedFrames (s : State) : List (List Byte) :=
  s.outputs.reverse.filterMap fun o =>
    match o with
    | .frame f => some f
    | _ => none

/-- One torque edge and its handler, after some ticks (30_encoding.md R96: TICKS n, then TQ). -/
def edgeAfter (gap : Nat) : List Instr := List.replicate gap .tick ++ [.torqueEdge, .torqueIsr]

end Sys2Proof.Machine
end

