-- ==== Sys2Proof/Certificates/Slice0/Obligations.lean ====
section
/-! DEFINITION. The statements for the provers. Each docstring names the rule of the spec the statement formalises. -/

open Sys2Proof Sys2Proof.Machine

/-! ### Reset -/

/-- 70_reset_and_hazards.md R280 with the table of 10_state.md R49: RESET gives every element the table's value, from
every state; REFUSED, the parameters, the script and the observations stay. -/
def Obligations.ResetGivesEveryElementItsTableValue : Prop :=
  (∀ s : State, ∃ t, exec .reset s = .next t ∧ ResetTable t ∧ t.refused = s.refused ∧
    t.params = s.params ∧ t.script = s.script ∧ t.outputs = s.outputs) ∧
  encode .reset = [0x3F, 0, 0, 0, 0]

/-- 10_state.md R49: a run starts with the table's values and REFUSED = 0. -/
def Obligations.RunStartsFromTheResetTable : Prop :=
  ResetTable State.reset ∧ State.reset.refused = false

/-! ### Timer -/

/-- 41_uart_tx.md R125 and R126, 42_uart_rx.md R151: TICK, its two match actions, the change of the line it reports, and
that it leaves every other field alone. -/
def Obligations.TickCountsAndMatches : Prop :=
  (∀ s : State, ∃ t, exec .tick s = .next t ∧
    t.cnt.toNat = (s.cnt.toNat + 1) % 65536 ∧
    (t.cnt = s.txccr → t.txout = s.txoutmod ∧ t.txifg = true) ∧
    (t.cnt ≠ s.txccr → t.txout = s.txout ∧ t.txifg = s.txifg) ∧
    (s.rxcap = false ∧ t.cnt = s.rxccr → t.rxscci = s.rxin ∧ t.rxifg = true) ∧
    (¬(s.rxcap = false ∧ t.cnt = s.rxccr) → t.rxscci = s.rxscci ∧ t.rxifg = s.rxifg) ∧
    (t.txout ≠ s.txout → t.outputs = .line t.cnt t.txout :: s.outputs) ∧
    (t.txout = s.txout → t.outputs = s.outputs) ∧
    t = { s with cnt := t.cnt, txout := t.txout, txifg := t.txifg, rxscci := t.rxscci, rxifg := t.rxifg,
                 outputs := t.outputs }) ∧
  encode .tick = [0x01, 0, 0, 0, 0]

/-- 10_state.md R26: within 2^16 ticks the transmit channel matches exactly when the counter comes to stand at TXCCR. A
register equal to the counter before the first tick is reached only by the tick 2^16 ticks later. -/
def Obligations.MatchComesWhenTheCounterReachesTheRegister : Prop :=
  ∀ (s : State) (n : Nat), n ≤ 65536 → s.txifg = false →
    ∃ t, runOps (List.replicate n .tick) s = .next t ∧ t.cnt.toNat = (s.cnt.toNat + n) % 65536 ∧
      (t.txifg = true ↔ (s.txccr.toNat + 65535 - s.cnt.toNat) % 65536 < n) ∧
      (t.txifg = true → t.txout = s.txoutmod) ∧ (t.txifg = false → t.txout = s.txout)

/-- 10_state.md R22 with 70_reset_and_hazards.md R280: no operation but TICK and RESET writes CNT. -/
def Obligations.OnlyTickAndResetWriteTheCounter : Prop :=
  ∀ (i : Instr) (s t : State), exec i s = .next t → i ≠ .tick → i ≠ .reset → t.cnt = s.cnt

/-! ### Elapsed time -/

/-- 40_elapsed.md R110: ELAPSED evaluates the two-branch formula and changes no state. -/
def Obligations.ElapsedEvaluatesItsFormula : Prop :=
  (∀ (finish start : Word) (s : State), ∃ r : Word,
    exec (.elapsed finish start) s = .next { s with outputs := .elapsed r :: s.outputs } ∧
    (start.toNat ≤ finish.toNat → r.toNat = (finish.toNat - start.toNat) % 65536) ∧
    (finish.toNat < start.toNat → r.toNat = ((0xFFFF - start.toNat) + 1 + finish.toNat) % 65536)) ∧
  (∀ finish start : Word, encode (.elapsed finish start) =
    [0x80, finish.extractLsb' 8 8, finish.extractLsb' 0 8, start.extractLsb' 8 8, start.extractLsb' 0 8])

/-- 40_elapsed.md R111, its laws (a) to (e). -/
def Obligations.ElapsedMeasuresModuloTheCounterRange : Prop :=
  (∀ finish start : Word, ((elapsedTicks finish start).toNat : Int) = ((finish.toNat : Int) - start.toNat) % 65536) ∧
  (∀ finish start : Word, (elapsedTicks finish start).toNat ≤ 0xFFFF ∧
    (finish < start → 1 ≤ (0xFFFF - start.toNat) + 1 + finish.toNat ∧
      (0xFFFF - start.toNat) + 1 + finish.toNat ≤ 0xFFFF)) ∧
  (∀ x : Word, elapsedTicks x x = 0) ∧
  (∀ (x : Word) (d : Nat), d ≤ 0xFFFF → (elapsedTicks (BitVec.ofNat 16 (x.toNat + d)) x).toNat = d) ∧
  (∀ (x : Word) (d : Nat), (elapsedTicks (BitVec.ofNat 16 (x.toNat + d)) x).toNat = d % 65536)

/-! ### Transmitter -/

/-- 41_uart_tx.md R121: TX_PACK evaluates to (zext_10(b) << 1) | 0x200 and changes no state. -/
def Obligations.TxPackEvaluatesTheCharacter : Prop :=
  (∀ (b : Byte) (s : State), ∃ c : Character,
    exec (.txPack b) s = .next { s with outputs := .packed c :: s.outputs } ∧ c.toNat = b.toNat * 2 + 512) ∧
  (∀ b : Byte, encode (.txPack b) = [0x81, 0, 0, 0, b])

/-- 30_encoding.md R81: where each bit of the character value comes from. -/
def Obligations.CharacterHasStartDataStopLayout : Prop :=
  ∀ b : Byte, (packCharacter b).getLsbD 0 = false ∧
    (∀ j : Nat, j < 8 → (packCharacter b).getLsbD (j + 1) = b.getLsbD j) ∧
    (packCharacter b).getLsbD 9 = true

/-- 41_uart_tx.md R123: FG_SEND pushes a one-byte foreground context while CTX is empty, and is stuck otherwise. -/
def Obligations.FgSendPushesOneByteContext : Prop :=
  (∀ (b : Byte) (s : State), s.ctx = [] → exec (.fgSend b) s = .next { s with ctx := [⟨.FG, [b]⟩] }) ∧
  (∀ (b : Byte) (s : State), s.ctx ≠ [] → exec (.fgSend b) s = .fault .foregroundBlocked) ∧
  (∀ b : Byte, encode (.fgSend b) = [0x30, 0, 0, 0, b])

/-- 41_uart_tx.md R122: CTX_SEND sets up the first byte of the top context while TXIE = 0, and pops the context with its
last byte. While TXIE = 1, and while CTX is empty, it has no step. -/
def Obligations.CtxSendSetsUpTheNextByte : Prop :=
  (∀ (s : State) (who : Who) (b : Byte) (later : List Byte) (below : List Context),
    s.ctx = ⟨who, b :: later⟩ :: below → s.txie = false →
    exec .ctxSend s = .next { s with
      txccr := BitVec.ofNat 16 (s.cnt.toNat + bitTicks s)
      txoutmod := true
      txifg := false
      txie := true
      txshift := BitVec.ofNat 10 (b.toNat * 2 + 512)
      txbitcnt := 10
      ctx := if later = [] then below else ⟨who, later⟩ :: below
      outputs := .sent b :: s.outputs }) ∧
  (∀ s : State, s.ctx ≠ [] → s.txie = true → exec .ctxSend s = .fault .ctxSendBusy) ∧
  (∀ s : State, s.ctx = [] → exec .ctxSend s = .fault .ctxSendNoContext) ∧
  encode .ctxSend = [0x44, 0, 0, 0, 0]

/-- 41_uart_tx.md R127: TX_ISR clears its flag and advances TXCCR by T on every run; with bits left it programs the next
one, and with none left it disables the channel. Without TXIFG and TXIE it has no step. -/
def Obligations.TxIsrProgramsBitOrDisables : Prop :=
  (∀ s : State, s.txifg = true → s.txie = true → s.txbitcnt ≠ 0 →
    exec .txIsr s = .next { s with
      txifg := false
      txccr := BitVec.ofNat 16 (s.txccr.toNat + bitTicks s)
      txoutmod := s.txshift.getLsbD 0
      txshift := s.txshift >>> 1
      txbitcnt := s.txbitcnt - 1 }) ∧
  (∀ s : State, s.txifg = true → s.txie = true → s.txbitcnt = 0 →
    exec .txIsr s = .next { s with
      txifg := false
      txccr := BitVec.ofNat 16 (s.txccr.toNat + bitTicks s)
      txie := false }) ∧
  (∀ s : State, ¬(s.txifg = true ∧ s.txie = true) → exec .txIsr s = .fault .txIsrNotEnabled) ∧
  encode .txIsr = [0x40, 0, 0, 0, 0]

/-- 41_uart_tx.md R130: the line is at mark, and every later match keeps it there, while no character is in flight. Every
step keeps that, with what it rests on (`LineOk`). -/
def Obligations.IdleLineStaysAtMark : Prop :=
  ∀ s t : State, LineOk s → step s = .next t → LineOk t

/-- The invariant of `IdleLineStaysAtMark` holds after reset. -/
def Obligations.ResetLeavesTheLineAtMark : Prop :=
  LineOk State.reset

/-- 41_uart_tx.md R128, for every interleaving of every operation but RESET and a further CTX_SEND: as long as no
TX_ISR comes too late, the line after n ticks is at the level of the character's match n / T, and the channel is
disabled only after the 11th match. -/
def Obligations.CharacterWaveformIsExact : Prop :=
  ∀ (s t : State) (who : Who) (b : Byte) (later : List Byte) (below : List Context) (ops : List Instr),
    admittedPeriod s.params.bitPeriod = true → s.ctx = ⟨who, b :: later⟩ :: below → s.txie = false → s.txout = true →
    .reset ∉ ops → .ctxSend ∉ ops →
    runOps (.ctxSend :: ops) s = .next t → everyStep txInTime (.ctxSend :: ops) s = true →
    t.txout = characterLevel b (ticksOf ops / bitTicks s) ∧
    (t.txie = true → ticksOf ops / bitTicks s ≤ 11) ∧
    (t.txie = false → 11 * bitTicks s ≤ ticksOf ops)

/-- 60_exceptions.md R253 (each character ends after 11 TX_ISR runs) with the run of 95_test_vectors.md, program A, for
every admitted T and every byte: a CTX_SEND and then 11 times T ticks and a TX_ISR complete the character. -/
def Obligations.CharacterCompletesWhenServed : Prop :=
  ∀ (s : State) (who : Who) (b : Byte) (later : List Byte) (below : List Context),
    admittedPeriod s.params.bitPeriod = true → s.ctx = ⟨who, b :: later⟩ :: below → s.txie = false →
    ∃ t, runOps (.ctxSend :: (List.replicate 11 (List.replicate (bitTicks s) .tick ++ [.txIsr])).flatten) s = .next t ∧
      t.txie = false ∧ t.txout = true ∧ t.txoutmod = true ∧ t.txbitcnt = 0 ∧ t.txshift = 0 ∧
      t.cnt.toNat = (s.cnt.toNat + 11 * bitTicks s) % 65536 ∧
      t.txccr.toNat = (s.cnt.toNat + 12 * bitTicks s) % 65536

/-- 41_uart_tx.md R124: while no TX_ISR runs, a busy transmitter stays busy, so no CTX_SEND has a step and every
context stays where it is, however many operations (and ticks) come. -/
def Obligations.BlockingSendNeverTimesOut : Prop :=
  ∀ (s t : State) (ops : List Instr),
    s.txie = true → .txIsr ∉ ops → .reset ∉ ops → runOps ops s = .next t →
    t.txie = true ∧ .ctxSend ∉ ops ∧ ∃ above, t.ctx = above ++ s.ctx

/-- 41_uart_tx.md R129, its first point, whatever the handler latency: the channel is busy for at least 11 T ticks. -/
def Obligations.BusyAtLeastElevenBitPeriods : Prop :=
  ∀ (s t : State) (ops : List Instr),
    admittedPeriod s.params.bitPeriod = true → .reset ∉ ops → .ctxSend ∉ ops →
    runOps (.ctxSend :: ops) s = .next t → t.txie = false → 11 * bitTicks s ≤ ticksOf ops

/-! ### Receiver -/

/-- 42_uart_rx.md R150: RX_LINE drives the line; only a falling edge in capture mode is captured. -/
def Obligations.RxLineCapturesFallingEdges : Prop :=
  (∀ (v : Bool) (s : State), s.rxcap = true ∧ s.rxin = true ∧ v = false →
    exec (.rxLine v) s = .next { s with rxin := v, rxccr := s.cnt, rxifg := true }) ∧
  (∀ (v : Bool) (s : State), ¬(s.rxcap = true ∧ s.rxin = true ∧ v = false) →
    exec (.rxLine v) s = .next { s with rxin := v }) ∧
  encode (.rxLine false) = [0x10, 0, 0, 0, 0] ∧ encode (.rxLine true) = [0x10, 0, 0, 0, 1]

/-- 42_uart_rx.md R153: RX_ISR on a captured start edge, on a mid-bit sample, and on the sample that completes the byte.
Without RXIFG and RXIE it has no step. -/
def Obligations.RxIsrStartsSamplesAndStores : Prop :=
  (∀ s : State, s.rxifg = true → s.rxie = true → s.rxcap = true →
    exec .rxIsr s = .next { s with
      rxifg := false
      rxccr := BitVec.ofNat 16 (s.rxccr.toNat + bitTicks s + bitTicks s / 2)
      rxcap := false
      rxbitcnt := 8 }) ∧
  (∀ s : State, s.rxifg = true → s.rxie = true → s.rxcap = false → s.rxbitcnt ≠ 1 →
    exec .rxIsr s = .next { s with
      rxifg := false
      rxccr := BitVec.ofNat 16 (s.rxccr.toNat + bitTicks s)
      rxshift := BitVec.ofNat 8 (s.rxshift.toNat / 2 + 128 * s.rxscci.toNat)
      rxbitcnt := s.rxbitcnt - 1 }) ∧
  (∀ s : State, s.rxifg = true → s.rxie = true → s.rxcap = false → s.rxbitcnt = 1 →
    exec .rxIsr s = .next { s with
      rxifg := false
      rxccr := BitVec.ofNat 16 (s.rxccr.toNat + bitTicks s)
      rxshift := BitVec.ofNat 8 (s.rxshift.toNat / 2 + 128 * s.rxscci.toNat)
      rxbitcnt := 0
      rxbuf := BitVec.ofNat 8 (s.rxshift.toNat / 2 + 128 * s.rxscci.toNat)
      rxfull := true
      wake := true
      rxcap := true }) ∧
  (∀ s : State, ¬(s.rxifg = true ∧ s.rxie = true) → exec .rxIsr s = .fault .rxIsrNotEnabled) ∧
  encode .rxIsr = [0x41, 0, 0, 0, 0]

/-- 42_uart_rx.md R154: RX_READ reports (RXBUF, RXFULL) as they were and clears RXFULL and WAKE while CTX is empty; it
is stuck otherwise. -/
def Obligations.RxReadReportsAndClears : Prop :=
  (∀ s : State, s.ctx = [] → exec .rxRead s = .next { s with
    rxfull := false, wake := false, outputs := .received s.rxbuf s.rxfull :: s.outputs }) ∧
  (∀ s : State, s.ctx ≠ [] → exec .rxRead s = .fault .foregroundBlocked) ∧
  encode .rxRead = [0x11, 0, 0, 0, 0]

/-- 10_state.md R31 with 42_uart_rx.md R153: after 8 samples, the first of them d[0], the receive shift register holds
exactly the byte they spell, whatever it held before. -/
def Obligations.EightSamplesReplaceTheShiftRegister : Prop :=
  ∀ (old : Byte) (samples : List Bool), samples.length = 8 →
    ∀ k : Nat, k < 8 → (samples.foldl shiftIn old).getLsbD k = samples.getD k false

/-- 42_uart_rx.md R157, for every admitted T, every byte, and every interleaving of every operation but RESET, RX_READ
and a further CTX_SEND: with the wire following TXOUT and LATENCY_OK, once 11 T ticks are past and RX_ISR has served the
last sample, RXBUF is the byte sent and RXFULL is 1. -/
def Obligations.LoopbackReconstructsEveryByte : Prop :=
  ∀ (s t : State) (who : Who) (b : Byte) (later : List Byte) (below : List Context) (ops : List Instr),
    admittedPeriod s.params.bitPeriod = true → s.ctx = ⟨who, b :: later⟩ :: below → s.txie = false → s.txout = true →
    s.rxie = true → s.rxcap = true → s.rxin = true → s.rxifg = false →
    .reset ∉ ops → .ctxSend ∉ ops → .rxRead ∉ ops →
    runOps (.ctxSend :: ops) s = .next t → LatencyOk (.ctxSend :: ops) s →
    everyStep wireFollows (.ctxSend :: ops) s = true →
    11 * bitTicks s ≤ ticksOf ops → t.rxifg = false →
    t.rxbuf = b ∧ t.rxfull = true

/-- 42_uart_rx.md R120 and R150 to R154 (one full-duplex line, a receiver independent of the transmitter): two states
that agree on all the transmitter reads agree on all the transmitter holds after any operation, whatever the receiver's
registers are. -/
def Obligations.TransmitterIsIndependentOfTheReceiver : Prop :=
  ∀ (i : Instr) (s s' t t' : State),
    s' = { s with rxccr := s'.rxccr, rxie := s'.rxie, rxifg := s'.rxifg, rxcap := s'.rxcap, rxscci := s'.rxscci,
                  rxin := s'.rxin, rxshift := s'.rxshift, rxbitcnt := s'.rxbitcnt, rxbuf := s'.rxbuf,
                  rxfull := s'.rxfull, wake := s'.wake } →
    exec i s = .next t → exec i s' = .next t' →
    t'.cnt = t.cnt ∧ t'.txccr = t.txccr ∧ t'.txie = t.txie ∧ t'.txifg = t.txifg ∧ t'.txoutmod = t.txoutmod ∧
    t'.txout = t.txout ∧ t'.txshift = t.txshift ∧ t'.txbitcnt = t.txbitcnt ∧ t'.ctx = t.ctx

/-! ### Framer -/

/-- 43_framer.md R180: CHECKSUM evaluates to the running XOR, seeded with 0, of a list of 0 to 256 bytes. A descriptor
whose count is above 256 is BadCount. -/
def Obligations.ChecksumEvaluatesTheRunningXor : Prop :=
  (∀ (xs : List Byte) (s : State), xs.length ≤ 256 →
    exec (.checksum xs) s = .next { s with outputs := .checksum (xs.foldl (· ^^^ ·) 0) :: s.outputs }) ∧
  (∀ (x : Operand) (rest : List Byte), x.toNat < 512 → 256 < x.toNat →
    ∃ after, decodeWord 0x82 x rest = .refused .badCount after) ∧
  (∀ xs : List Byte, xs.length ≤ 256 → encode (.checksum xs) =
    [0x82, 0, 0, BitVec.ofNat 8 (xs.length / 256), BitVec.ofNat 8 xs.length] ++ xs)

/-- 43_framer.md R181: FRAME_BUILD evaluates to sync, length, payload and checksum for a payload of 1 to 256 bytes, and
any other payload is BadPayloadLength. -/
def Obligations.FrameBuildEvaluatesTheFrame : Prop :=
  (∀ (payload : List Byte) (s : State), 1 ≤ payload.length → payload.length ≤ 256 →
    exec (.frameBuild payload) s = .next { s with outputs := .built (frameLayout payload) :: s.outputs }) ∧
  (∀ (payload : List Byte) (s : State), ¬(1 ≤ payload.length ∧ payload.length ≤ 256) →
    exec (.frameBuild payload) s =
      .next { s with refused := true, outputs := .refusal .badPayloadLength :: s.outputs }) ∧
  (∀ payload : List Byte, payload.length ≤ 256 → encode (.frameBuild payload) =
    [0x83, 0, 0, BitVec.ofNat 8 (payload.length / 256), BitVec.ofNat 8 payload.length] ++ payload)

/-- 43_framer.md R182: FG_FRAME emits the frame and pushes it as a foreground context while CTX is empty, and refuses
where FRAME_BUILD does; it is stuck otherwise, and a descriptor whose count is outside 1..256 is BadCount. -/
def Obligations.FgFramePushesTheFrame : Prop :=
  (∀ (payload : List Byte) (s : State), 1 ≤ payload.length → payload.length ≤ 256 → s.ctx = [] →
    exec (.fgFrame payload) s = .next { s with
      ctx := [⟨.FG, frameLayout payload⟩], outputs := .frame (frameLayout payload) :: s.outputs }) ∧
  (∀ (payload : List Byte) (s : State), s.ctx ≠ [] → exec (.fgFrame payload) s = .fault .foregroundBlocked) ∧
  (∀ (payload : List Byte) (s : State), s.ctx = [] → ¬(1 ≤ payload.length ∧ payload.length ≤ 256) →
    exec (.fgFrame payload) s =
      .next { s with refused := true, outputs := .refusal .badPayloadLength :: s.outputs }) ∧
  (∀ (x : Operand) (rest : List Byte), x.toNat < 512 → (x.toNat = 0 ∨ 256 < x.toNat) →
    ∃ after, decodeWord 0x31 x rest = .refused .badCount after) ∧
  (∀ payload : List Byte, payload.length ≤ 256 → encode (.fgFrame payload) =
    [0x31, 0, 0, BitVec.ofNat 8 (payload.length / 256), BitVec.ofNat 8 payload.length] ++ payload)

/-- 43_framer.md R184, its laws (a) to (d). -/
def Obligations.FramesObeyTheFrameLaws : Prop :=
  (∀ payload f : List Byte, buildFrame payload = some f →
    f.length = payload.length + 3 ∧ f.foldl (· ^^^ ·) 0 = 0 ∧ f[0]? = some 0xA4 ∧
    ∃ l : Byte, f[1]? = some l ∧ l.toNat + 4 = f.length) ∧
  (∀ p q f : List Byte, buildFrame p = some f → buildFrame q = some f → p = q)

/-- 43_framer.md R183 and 20_memory.md R62: while nothing pushes a further context, the bytes of a frame's context are
set up once each, in list order, one by each CTX_SEND, and the context goes with its last byte. -/
def Obligations.FrameBytesAreSentOnceInOrder : Prop :=
  ∀ (s t : State) (who : Who) (bytes : List Byte) (ops : List Instr),
    s.ctx = [⟨who, bytes⟩] → bytes ≠ [] →
    .reset ∉ ops → .torqueIsr ∉ ops → .calIsr ∉ ops →
    (∀ b, .fgSend b ∉ ops) → (∀ p, .fgFrame p ∉ ops) →
    runOps ops s = .next t →
    ops.count .ctxSend ≤ bytes.length ∧
    sentBytes t = sentBytes s ++ bytes.take (ops.count .ctxSend) ∧
    t.ctx = if ops.count .ctxSend = bytes.length then [] else [⟨who, bytes.drop (ops.count .ctxSend)⟩]

/-- 60_exceptions.md R252 and R247(d): only the top context moves. Any operation but RESET leaves every context below
the top as it is, and any but CTX_SEND leaves the top one too. -/
def Obligations.OnlyTheTopContextMoves : Prop :=
  ∀ (i : Instr) (s t : State) (c : Context) (below : List Context),
    s.ctx = c :: below → exec i s = .next t → i ≠ .reset →
    (∃ above, t.ctx = above ++ below) ∧ (i ≠ .ctxSend → ∃ above, t.ctx = above ++ c :: below)

/-! ### Capture, mode and calibration -/

/-- 44_capture.md R200: TORQUE_EDGE sets TQPEND and nothing else. -/
def Obligations.TorqueEdgeSetsItsPendingBit : Prop :=
  (∀ s : State, exec .torqueEdge s = .next { s with tqpend := true }) ∧ encode .torqueEdge = [0x20, 0, 0, 0, 0]

/-- 44_capture.md R202: CLASSIFY answers a new group exactly for gaps strictly above MASK_TICKS. -/
def Obligations.ClassifyComparesWithTheMask : Prop :=
  (∀ (gap : Word) (s : State), exec (.classify gap) s = .next { s with
    outputs := .classified (if s.params.maskTicks.toNat < gap.toNat then .newGroup else .sameGroup) :: s.outputs }) ∧
  (∀ gap : Word, encode (.classify gap) = [0x84, 0, 0, gap.extractLsb' 8 8, gap.extractLsb' 0 8])

/-- 44_capture.md R201 (and 60_exceptions.md R248 for the refused step): TORQUE_ISR counts the edge; with 13 edges in
the group it emits the rotation sample's frame, and a payload that cannot be framed refuses the whole step. -/
def Obligations.TorqueIsrCountsAndEmits : Prop :=
  (∀ s : State, s.tqpend = true → (∀ c ∈ s.ctx, c.who ≠ .TQ) →
    let newGroup : Bool := decide (s.params.maskTicks.toNat < (elapsedTicks s.cnt s.lastedge).toNat)
    let ticket : Word := if newGroup then s.torqueticket + 1 else s.torqueticket
    let count : Word := if newGroup then 1 else BitVec.ofNat 16 (min (s.pulsecount.toNat + 1) 0xFFFF)
    let sample : RotationSample := ⟨s.rotcnt + 1, ticket, BitVec.ofNat 16 ((elapsedTicks s.cnt s.lasttx).toNat / 2)⟩
    let payload : List Byte := rotPayload s.params sample
    (count ≠ 13 → exec .torqueIsr s = .next { s with
      tqpend := false, lastedge := s.cnt, torqueticket := ticket, pulsecount := count }) ∧
    (count = 13 → 1 ≤ payload.length ∧ payload.length ≤ 256 →
      exec .torqueIsr s = .next { s with
        tqpend := false, lastedge := s.cnt, torqueticket := 0, pulsecount := 13, rotcnt := s.rotcnt + 1,
        lasttx := s.cnt, ctx := ⟨.TQ, frameLayout payload⟩ :: s.ctx,
        outputs := .frame (frameLayout payload) :: s.outputs }) ∧
    (count = 13 → ¬(1 ≤ payload.length ∧ payload.length ≤ 256) →
      exec .torqueIsr s = .next { s with
        refused := true, outputs := .refusal .badPayloadLength :: s.outputs })) ∧
  (∀ s : State, ¬(s.tqpend = true ∧ ∀ c ∈ s.ctx, c.who ≠ .TQ) →
    exec .torqueIsr s = .fault .torqueIsrNotEnabled) ∧
  encode .torqueIsr = [0x42, 0, 0, 0, 0]

/-- 44_capture.md R203(a): from PULSECOUNT = 0 with LASTEDGE = CNT, as after reset, 13 edges whose gaps are all at or
below MASK_TICKS emit exactly one frame, at the 13th edge. -/
def Obligations.ThirteenSmallGapsEmitOneSample : Prop :=
  ∀ (s : State) (gaps : List Nat),
    s.pulsecount = 0 → s.lastedge = s.cnt → s.ctx = [] → gaps.length ≤ 13 →
    (∀ g ∈ gaps, g ≤ s.params.maskTicks.toNat) →
    (∀ x, 1 ≤ (rotPayload s.params x).length ∧ (rotPayload s.params x).length ≤ 256) →
    ∃ t, runOps (gaps.flatMap edgeAfter) s = .next t ∧ t.pulsecount.toNat = gaps.length ∧
      (gaps.length < 13 → t.ctx = [] ∧ emittedFrames t = emittedFrames s) ∧
      (gaps.length = 13 → ∃ f, t.ctx = [⟨.TQ, f⟩] ∧ emittedFrames t = emittedFrames s ++ [f] ∧
        f = frameLayout (rotPayload s.params
          ⟨s.rotcnt + 1, s.torqueticket, elapsedTicks t.cnt s.lasttx >>> 1⟩))

/-- 44_capture.md R203(a), the rest of a long group: a same-group edge past the 13th emits nothing, and the count stays
past 13 (R204: it clamps, it does not wrap). -/
def Obligations.LongGroupEmitsNoSecondSample : Prop :=
  ∀ s t : State, 13 ≤ s.pulsecount.toNat →
    (elapsedTicks s.cnt s.lastedge).toNat ≤ s.params.maskTicks.toNat → exec .torqueIsr s = .next t →
    t.ctx = s.ctx ∧ t.outputs = s.outputs ∧ t.rotcnt = s.rotcnt ∧ t.torqueticket = s.torqueticket ∧
    13 ≤ t.pulsecount.toNat

/-- 44_capture.md R210: MODE_EDGE toggles MODE, makes CALIE equal to it and clears CALPEND; nothing else changes. -/
def Obligations.ModeEdgeTogglesWithoutFlush : Prop :=
  (∀ s : State, ∃ m, m ≠ s.mode ∧
    exec .modeEdge s = .next { s with mode := m, calie := decide (m = .calibrationCapture), calpend := false }) ∧
  encode .modeEdge = [0x22, 0, 0, 0, 0]

/-- 44_capture.md R215: CAL_EXPIRY sets CALPEND exactly while CALIE = 1. -/
def Obligations.CalExpirySetsCalpendWhenEnabled : Prop :=
  (∀ s : State, s.calie = true → exec .calExpiry s = .next { s with calpend := true }) ∧
  (∀ s : State, s.calie = false → exec .calExpiry s = .next s) ∧
  encode .calExpiry = [0x21, 0, 0, 0, 0]

/-- 44_capture.md R216 (and 60_exceptions.md R248 for the refused step): CAL_ISR snapshots TORQUETICKET, toggles the
indicator and sends the calibration frame; the torque path's state is not written. -/
def Obligations.CalIsrSnapshotsAndSends : Prop :=
  (∀ s : State, s.calpend = true → s.calie = true → (∀ c ∈ s.ctx, c.who ≠ .CAL) →
    let payload : List Byte := calPayload s.params s.torqueticket
    (1 ≤ payload.length ∧ payload.length ≤ 256 →
      exec .calIsr s = .next { s with
        calpend := false, indicator := !s.indicator, caloffset := s.torqueticket,
        ctx := ⟨.CAL, frameLayout payload⟩ :: s.ctx, outputs := .frame (frameLayout payload) :: s.outputs }) ∧
    (¬(1 ≤ payload.length ∧ payload.length ≤ 256) →
      exec .calIsr s = .next { s with
        refused := true, outputs := .refusal .badPayloadLength :: s.outputs })) ∧
  (∀ s : State, ¬(s.calpend = true ∧ s.calie = true ∧ ∀ c ∈ s.ctx, c.who ≠ .CAL) →
    exec .calIsr s = .fault .calIsrNotEnabled) ∧
  encode .calIsr = [0x43, 0, 0, 0, 0]

/-! ### The whole machine -/

/-- 10_state.md R50: which operations write each group of state. -/
def Obligations.StateGroupsHaveOnlyTheirWriters : Prop :=
  ∀ (i : Instr) (s t : State), exec i s = .next t → i ≠ .reset →
    (i ≠ .torqueIsr → t.pulsecount = s.pulsecount ∧ t.torqueticket = s.torqueticket ∧ t.lastedge = s.lastedge ∧
      t.lasttx = s.lasttx ∧ t.rotcnt = s.rotcnt) ∧
    (i ≠ .calIsr → t.caloffset = s.caloffset ∧ t.indicator = s.indicator) ∧
    (i ≠ .ctxSend → i ≠ .txIsr → t.txccr = s.txccr ∧ t.txie = s.txie ∧ t.txoutmod = s.txoutmod ∧
      t.txshift = s.txshift ∧ t.txbitcnt = s.txbitcnt) ∧
    (i ≠ .rxIsr → t.rxcap = s.rxcap ∧ t.rxshift = s.rxshift ∧ t.rxbitcnt = s.rxbitcnt ∧ t.rxbuf = s.rxbuf ∧
      (i ≠ .rxRead → t.rxfull = s.rxfull ∧ t.wake = s.wake) ∧
      (t.rxccr = s.rxccr ∨ ∃ v, i = .rxLine v ∧ t.rxccr = s.cnt)) ∧
    (i ≠ .modeEdge → t.mode = s.mode ∧ t.calie = s.calie ∧
      (i ≠ .calExpiry → i ≠ .calIsr → t.calpend = s.calpend))

/-- 60_exceptions.md R243, first sentence: each handler has a step exactly when its pending bit is 1, its enable is 1,
and it is not already active. -/
def Obligations.HandlersStepExactlyWhenEnabled : Prop :=
  ∀ s : State,
    ((∃ t, exec .txIsr s = .next t) ↔ s.txifg = true ∧ s.txie = true) ∧
    ((∃ t, exec .rxIsr s = .next t) ↔ s.rxifg = true ∧ s.rxie = true) ∧
    ((∃ t, exec .torqueIsr s = .next t) ↔ s.tqpend = true ∧ ∀ c ∈ s.ctx, c.who ≠ .TQ) ∧
    ((∃ t, exec .calIsr s = .next t) ↔ s.calpend = true ∧ s.calie = true ∧ ∀ c ∈ s.ctx, c.who ≠ .CAL)

/-- 10_state.md R46: no operation and no step clears REFUSED, not even RESET. -/
def Obligations.RefusedIsNeverCleared : Prop :=
  (∀ (i : Instr) (s t : State), s.refused = true → exec i s = .next t → t.refused = true) ∧
  (∀ s t : State, s.refused = true → step s = .next t → t.refused = true)

/-- No step changes the machine's parameters (00_scope.md R8, R10, R13: they are fixed for the machine), and the
observations only grow. -/
def Obligations.ParametersAreFixedAndOutputsGrow : Prop :=
  ∀ s t : State, step s = .next t → t.params = s.params ∧ ∃ new, t.outputs = new ++ s.outputs

/-- The invariants of 10_state.md R27, R30, R32, R43, R45 and 42_uart_rx.md R153 (`StateOk`) are kept by every step. -/
def Obligations.EveryStepKeepsTheStateInvariants : Prop :=
  ∀ s t : State, StateOk s → step s = .next t → StateOk t

/-- The invariants of `EveryStepKeepsTheStateInvariants` hold after reset. -/
def Obligations.ResetMeetsTheStateInvariants : Prop :=
  StateOk State.reset

/-- 60_exceptions.md R247(b): no step from a state that meets the invariants leaves more than three contexts in CTX. -/
def Obligations.AtMostThreeSendingContexts : Prop :=
  ∀ s t : State, StateOk s → step s = .next t → t.ctx.length ≤ 3

/-- 10_state.md R48: the bits of TXCTL, RXCTL and STAT, the reserved ones reading as 0. -/
def Obligations.ControlWordsShowTheirFields : Prop :=
  ∀ s : State,
    (∃ w, element s 2 = some w ∧ w.toNat < 16 ∧ w.getLsbD 0 = s.txie ∧ w.getLsbD 1 = s.txifg ∧
      w.getLsbD 2 = s.txoutmod ∧ w.getLsbD 3 = s.txout) ∧
    (∃ w, element s 4 = some w ∧ w.toNat < 32 ∧ w.getLsbD 0 = s.rxie ∧ w.getLsbD 1 = s.rxifg ∧
      w.getLsbD 2 = s.rxcap ∧ w.getLsbD 3 = s.rxscci ∧ w.getLsbD 4 = s.rxin) ∧
    (∃ w, element s 10 = some w ∧ w.toNat < 256 ∧ w.getLsbD 0 = s.rxfull ∧ w.getLsbD 1 = s.wake ∧
      w.getLsbD 2 = s.tqpend ∧ w.getLsbD 3 = s.calpend ∧ w.getLsbD 4 = modeBit s.mode ∧ w.getLsbD 5 = s.calie ∧
      w.getLsbD 6 = s.indicator ∧ w.getLsbD 7 = s.refused)

/-! ### Descriptors and steps -/

/-- 30_encoding.md R91: a descriptor whose opcode is not in the map is IllegalOpcode; the step sets REFUSED, reports
the reason and changes nothing else of the block. How much of the script the descriptor takes is the model's choice
(notes/assumptions/6.md). -/
def Obligations.IllegalOpcodesAreRefused : Prop :=
  ∀ (s : State) (code b3 b2 b1 b0 : Byte) (rest : List Byte),
    code.toNat ∉ [0x01, 0x10, 0x11, 0x20, 0x21, 0x22, 0x30, 0x31, 0x3F, 0x40, 0x41, 0x42, 0x43, 0x44, 0x80, 0x81,
      0x82, 0x83, 0x84] →
    s.script = code :: b3 :: b2 :: b1 :: b0 :: rest →
    step s = .next { s with refused := true, script := rest, outputs := .refusal .illegalOpcode :: s.outputs }

/-- 30_encoding.md R92 with R88 and R89: a legal opcode whose operand has a must-be-zero bit set is
ReservedOperandBits, whatever its count; with those bits 0, a count outside the admitted range is BadCount. How much of
the script the descriptor takes is the model's choice (notes/assumptions/6.md). -/
def Obligations.ReservedBitsThenCountAreRefused : Prop :=
  (∀ (s : State) (op : Op) (x : Operand) (rest : List Byte),
    s.script = op.code :: operandBytes x ++ rest →
    (match op.format with
      | .N => 1 ≤ x.toNat | .L => 2 ≤ x.toNat | .B => 256 ≤ x.toNat | .W => 65536 ≤ x.toNat | .FR => 512 ≤ x.toNat
      | .E => False) →
    ∃ after, step s = .next { s with
      refused := true, script := after, outputs := .refusal .reservedOperandBits :: s.outputs }) ∧
  (∀ (s : State) (op : Op) (x : Operand) (rest : List Byte),
    s.script = op.code :: operandBytes x ++ rest → x.toNat < 512 →
    (op = .checksum ∧ 256 < x.toNat ∨ (op = .fgFrame ∨ op = .frameBuild) ∧ (x.toNat = 0 ∨ 256 < x.toNat)) →
    ∃ after, step s = .next { s with
      refused := true, script := after, outputs := .refusal .badCount :: s.outputs })

/-- 60_exceptions.md R241, code 5, with 00_scope.md R8: in an instance whose T is outside 2..43690 no step but a refused
one exists. -/
def Obligations.InadmissibleBitPeriodRefusesEveryStep : Prop :=
  ∀ s : State, ¬(2 ≤ bitTicks s ∧ bitTicks s ≤ 43690) →
    (∀ t, step s = .next t → ∃ after reason, t = { s with
      refused := true, script := after, outputs := .refusal reason :: s.outputs }) ∧
    (∀ i rest, decode s.script = .instr i rest →
      step s = .next { s with refused := true, script := rest, outputs := .refusal .badParameter :: s.outputs })

/-- A step runs the operation decoded at the front of the script, in the state without its descriptor. -/
def Obligations.StepRunsTheDecodedOperation : Prop :=
  ∀ (s : State) (i : Instr) (rest : List Byte), 2 ≤ bitTicks s → bitTicks s ≤ 43690 → i.wellFormed = true →
    s.script = encode i ++ rest → step s = exec i { s with script := rest }

/-- 30_encoding.md R88 to R90 and R94, with the descriptors 95_test_vectors.md writes out. -/
def Obligations.WrittenDescriptorsDecode : Prop :=
  decode [0x01, 0x00, 0x00, 0x00, 0x00] = .instr .tick [] ∧
  decode [0x10, 0x00, 0x00, 0x00, 0x01] = .instr (.rxLine true) [] ∧
  decode [0x30, 0x00, 0x00, 0x00, 0x55] = .instr (.fgSend 0x55) [] ∧
  decode [0x80, 0x00, 0x10, 0xFF, 0xF0] = .instr (.elapsed 0x0010 0xFFF0) [] ∧
  decode [0x84, 0x00, 0x00, 0x00, 0x64] = .instr (.classify 100) [] ∧
  decode [0x83, 0x00, 0x00, 0x00, 0x04, 0x42, 0x00, 0x10, 0x00] = .instr (.frameBuild [0x42, 0x00, 0x10, 0x00]) []

/-- 30_encoding.md R88 to R90 and R94: decoding the encoding of any well-formed operation gives it back, with the rest
of the stream. -/
def Obligations.DecodeInvertsEncode : Prop :=
  ∀ (i : Instr) (rest : List Byte), i.wellFormed = true → decode (encode i ++ rest) = .instr i rest

/-- 30_encoding.md R88 to R92: an operation is read only from its own encoding, and only a well-formed one (R92: a
descriptor never delivers a payload of length 0 or more than 256). -/
def Obligations.EveryDescriptorIsTheEncodingOfItsOperation : Prop :=
  ∀ (i : Instr) (bytes rest : List Byte), decode bytes = .instr i rest →
    i.wellFormed = true ∧ bytes = encode i ++ rest

/-! ### Further rules of the capture engine and the payload builders -/

/-- 44_capture.md R203(a), from a new group: an edge whose gap is above MASK_TICKS starts a group whatever the count was,
and with 12 small gaps after it exactly one frame is emitted, at the group's 13th edge. -/
def Obligations.NewGroupEmitsAtItsThirteenthEdge : Prop :=
  ∀ (s : State) (first : Nat) (gaps : List Nat),
    s.lastedge = s.cnt → s.ctx = [] → s.params.maskTicks.toNat < first → first ≤ 0xFFFF → gaps.length ≤ 12 →
    (∀ g ∈ gaps, g ≤ s.params.maskTicks.toNat) →
    (∀ x, 1 ≤ (rotPayload s.params x).length ∧ (rotPayload s.params x).length ≤ 256) →
    ∃ t, runOps (edgeAfter first ++ gaps.flatMap edgeAfter) s = .next t ∧ t.pulsecount.toNat = gaps.length + 1 ∧
      (gaps.length < 12 → t.ctx = [] ∧ emittedFrames t = emittedFrames s ∧ t.torqueticket = s.torqueticket + 1) ∧
      (gaps.length = 12 → t.torqueticket = 0 ∧ ∃ f, t.ctx = [⟨.TQ, f⟩] ∧ emittedFrames t = emittedFrames s ++ [f] ∧
        f = frameLayout (rotPayload s.params
          ⟨s.rotcnt + 1, s.torqueticket + 1, elapsedTicks t.cnt s.lasttx >>> 1⟩))

/-- 20_memory.md R63: in every instance, the one with open builders too, a payload is its fields in order, each 8-bit
one a byte and each 16-bit one its low byte followed by its high byte; a layout's fields are those of the sample. That a
builder answers a list of fields is the model's choice (notes/assumptions/8.md). -/
def Obligations.PayloadFieldsAreLittleEndian : Prop :=
  let bytesOf : PayloadField → List Byte := fun field =>
    match field with
    | .byte b => [b]
    | .word w => [BitVec.ofNat 8 (w.toNat % 256), BitVec.ofNat 8 (w.toNat / 256)]
  ∀ p : Params,
    (∀ x : RotationSample, rotPayload p x = (rotFields p x).flatMap bytesOf) ∧
    (∀ offset : Word, calPayload p offset = (calFields p offset).flatMap bytesOf) ∧
    (∀ (items : List RotItem) (x : RotationSample), p.rotLayout = some items →
      rotFields p x = items.map fun item =>
        match item with
        | .literal b => .byte b
        | .rotationEventCounter => .byte x.rotationEventCounter
        | .torqueTicks => .word x.torqueTicks
        | .timeStampHalfUnits => .word x.timeStampHalfUnits) ∧
    (∀ (items : List CalItem) (offset : Word), p.calLayout = some items →
      calFields p offset = items.map fun item =>
        match item with
        | .literal b => .byte b
        | .offset => .word offset)

/-- 44_capture.md R201 and R216 with 92_eei_decisions.md D22: with admitted builders an enabled TORQUE_ISR and an enabled
CAL_ISR answer a next state and refuse nothing. -/
def Obligations.AdmittedBuildersAreNeverRefused : Prop :=
  ∀ s : State, AdmittedBuilders s.params →
    (s.tqpend = true → (∀ c ∈ s.ctx, c.who ≠ .TQ) →
      ∃ t, exec .torqueIsr s = .next t ∧ t.refused = s.refused ∧ t.tqpend = false) ∧
    (s.calpend = true → s.calie = true → (∀ c ∈ s.ctx, c.who ≠ .CAL) →
      ∃ t, exec .calIsr s = .next t ∧ t.refused = s.refused ∧ t.calpend = false)
end

