-- ==== Sys2Proof/Laws/Decode.lean ====
section
/-! SUPPORT. The decoder and the encoder, field by field: what the proofs about descriptors cite. -/

namespace Sys2Proof

open Machine

/-- No two rows of the opcode map share a code (R90). -/
theorem Op.code_injective : ∀ a b : Op, a.code = b.code → a = b := by
  intro a b; cases a <;> cases b <;> decide

/-- The opcode map is read back as it is written (R90). -/
theorem Op.ofByte_code (op : Op) : Op.ofByte op.code = some op := by
  cases op <;> decide

theorem Op.ofByte_eq_some_iff (code : Byte) (op : Op) : Op.ofByte code = some op ↔ code = op.code := by
  constructor
  · intro h
    have h' : (op.code == code) = true := List.find?_some (p := fun o : Op => o.code == code) h
    exact (eq_of_beq h').symm
  · rintro rfl; exact Op.ofByte_code op

/-- The four operand bytes, put together again, are the operand. -/
theorem operandBytes_append (x : Operand) :
    (x.extractLsb' 24 8 ++ x.extractLsb' 16 8 ++ x.extractLsb' 8 8 ++ x.extractLsb' 0 8 : BitVec 32) = x := by
  apply BitVec.eq_of_getLsbD_eq
  intro i hi
  simp only [BitVec.getLsbD_append, BitVec.getLsbD_extractLsb']
  by_cases h0 : i < 8
  · simp [h0]
  · by_cases h1 : i - 8 < 8
    · simp [h0, h1]; congr 1; omega
    · by_cases h2 : i - 8 - 8 < 8
      · simp [h0, h1, h2]; congr 1; omega
      · simp [h0, h1, h2, show i - 8 - 8 - 8 < 8 by omega]; congr 1; omega

/-- The bytes of an operand put together from four bytes are those four. -/
theorem operandBytes_of_append (b3 b2 b1 b0 : Byte) : operandBytes (b3 ++ b2 ++ b1 ++ b0) = [b3, b2, b1, b0] := by
  have h : ∀ (c : Byte) (k : Nat), (∀ i, i < 8 → (b3 ++ b2 ++ b1 ++ b0 : BitVec 32).getLsbD (k + i) = c.getLsbD i) →
      (b3 ++ b2 ++ b1 ++ b0 : BitVec 32).extractLsb' k 8 = c := by
    intro c k hk
    apply BitVec.eq_of_getLsbD_eq
    intro i hi
    rw [BitVec.getLsbD_extractLsb', hk i hi]
    simp [hi]
  simp only [operandBytes]
  rw [h b3 24, h b2 16, h b1 8, h b0 0]
  all_goals
    intro i hi
    simp only [BitVec.getLsbD_append]
  · simp [hi]
  · simp [hi]
  · simp [show ¬ 16 + i < 8 by omega, show ¬ 16 + i - 8 < 8 by omega, show 16 + i - 8 - 8 = i by omega, hi]
  · simp [show ¬ 24 + i < 8 by omega, show ¬ 24 + i - 8 < 8 by omega, show ¬ 24 + i - 8 - 8 < 8 by omega,
      show 24 + i - 8 - 8 - 8 = i by omega]

/-- Format E reads back what it lays out. -/
theorem operandEnd_append (finish start : Word) : operandEnd (finish ++ start) = finish := by
  apply BitVec.eq_of_getLsbD_eq
  intro i hi
  unfold operandEnd
  rw [BitVec.getLsbD_extractLsb', BitVec.getLsbD_append]
  simp [hi]

theorem operandStart_append (finish start : Word) : operandStart (finish ++ start) = start := by
  apply BitVec.eq_of_getLsbD_eq
  intro i hi
  unfold operandStart
  rw [BitVec.getLsbD_extractLsb', BitVec.getLsbD_append]
  simp [hi]

theorem operandEnd_append_operandStart (x : Operand) : (operandEnd x ++ operandStart x : BitVec 32) = x := by
  apply BitVec.eq_of_getLsbD_eq
  intro i hi
  unfold operandEnd operandStart
  rw [BitVec.getLsbD_append, BitVec.getLsbD_extractLsb', BitVec.getLsbD_extractLsb']
  by_cases h : i < 16
  · simp [h]
  · simp [h, show i - 16 < 16 by omega, show 16 + (i - 16) = i by omega]

theorem operandByte_setWidth (b : Byte) : operandByte (b.setWidth 32) = b := by
  apply BitVec.eq_of_toNat_eq
  have := b.isLt
  simp [operandByte]
  omega

theorem operandWord_setWidth (w : Word) : operandWord (w.setWidth 32) = w := by
  apply BitVec.eq_of_toNat_eq
  have := w.isLt
  simp [operandWord]
  omega

theorem operandCount_eq (x : Operand) : operandCount x = x.toNat % 512 := by
  simp [operandCount]

/-- Decoding an encoded word is decoding its operand by its format. -/
theorem decode_word (op : Op) (x : Operand) (rest : List Byte) :
    decode (op.code :: operandBytes x ++ rest) =
      if reservedBitsClear op.format x then decodeOperand op x rest
      else .refused .reservedOperandBits (rest.drop (followingBytes op.format x)) := by
  have hx := operandBytes_append x
  simp only [operandBytes, List.cons_append, List.nil_append, decode, decodeWord, Op.ofByte_code]
  rw [hx]

/-- `reservedBitsClear` as a bound: the operand is below the first reserved bit (R88). -/
theorem reservedBitsClear_iff (f : Format) (x : Operand) :
    reservedBitsClear f x = true ↔ x.toNat < match f with
      | .N => 1 | .B => 256 | .L => 2 | .W => 65536 | .E => 4294967296 | .FR => 512 := by
  have hx := x.isLt
  cases f <;> simp [reservedBitsClear, BitVec.toNat_eq, BitVec.toNat_ushiftRight, Nat.shiftRight_eq_div_pow]
  all_goals omega

end Sys2Proof
end

