-- ==== Sys2Proof/Laws/State.lean ====
section
/-! SUPPORT. What each shared update of the state does to each field, so that no later proof unfolds one. -/

namespace Sys2Proof.Machine

/-! ### observe -/

@[simp] theorem observe_params (o : Output) (s : State) : (observe o s).params = s.params := rfl
@[simp] theorem observe_cnt (o : Output) (s : State) : (observe o s).cnt = s.cnt := rfl
@[simp] theorem observe_txccr (o : Output) (s : State) : (observe o s).txccr = s.txccr := rfl
@[simp] theorem observe_txie (o : Output) (s : State) : (observe o s).txie = s.txie := rfl
@[simp] theorem observe_txifg (o : Output) (s : State) : (observe o s).txifg = s.txifg := rfl
@[simp] theorem observe_txoutmod (o : Output) (s : State) : (observe o s).txoutmod = s.txoutmod := rfl
@[simp] theorem observe_txout (o : Output) (s : State) : (observe o s).txout = s.txout := rfl
@[simp] theorem observe_rxccr (o : Output) (s : State) : (observe o s).rxccr = s.rxccr := rfl
@[simp] theorem observe_rxie (o : Output) (s : State) : (observe o s).rxie = s.rxie := rfl
@[simp] theorem observe_rxifg (o : Output) (s : State) : (observe o s).rxifg = s.rxifg := rfl
@[simp] theorem observe_rxcap (o : Output) (s : State) : (observe o s).rxcap = s.rxcap := rfl
@[simp] theorem observe_rxscci (o : Output) (s : State) : (observe o s).rxscci = s.rxscci := rfl
@[simp] theorem observe_rxin (o : Output) (s : State) : (observe o s).rxin = s.rxin := rfl
@[simp] theorem observe_txshift (o : Output) (s : State) : (observe o s).txshift = s.txshift := rfl
@[simp] theorem observe_txbitcnt (o : Output) (s : State) : (observe o s).txbitcnt = s.txbitcnt := rfl
@[simp] theorem observe_rxshift (o : Output) (s : State) : (observe o s).rxshift = s.rxshift := rfl
@[simp] theorem observe_rxbitcnt (o : Output) (s : State) : (observe o s).rxbitcnt = s.rxbitcnt := rfl
@[simp] theorem observe_rxbuf (o : Output) (s : State) : (observe o s).rxbuf = s.rxbuf := rfl
@[simp] theorem observe_rxfull (o : Output) (s : State) : (observe o s).rxfull = s.rxfull := rfl
@[simp] theorem observe_wake (o : Output) (s : State) : (observe o s).wake = s.wake := rfl
@[simp] theorem observe_pulsecount (o : Output) (s : State) : (observe o s).pulsecount = s.pulsecount := rfl
@[simp] theorem observe_torqueticket (o : Output) (s : State) : (observe o s).torqueticket = s.torqueticket := rfl
@[simp] theorem observe_lastedge (o : Output) (s : State) : (observe o s).lastedge = s.lastedge := rfl
@[simp] theorem observe_lasttx (o : Output) (s : State) : (observe o s).lasttx = s.lasttx := rfl
@[simp] theorem observe_rotcnt (o : Output) (s : State) : (observe o s).rotcnt = s.rotcnt := rfl
@[simp] theorem observe_caloffset (o : Output) (s : State) : (observe o s).caloffset = s.caloffset := rfl
@[simp] theorem observe_indicator (o : Output) (s : State) : (observe o s).indicator = s.indicator := rfl
@[simp] theorem observe_mode (o : Output) (s : State) : (observe o s).mode = s.mode := rfl
@[simp] theorem observe_calie (o : Output) (s : State) : (observe o s).calie = s.calie := rfl
@[simp] theorem observe_tqpend (o : Output) (s : State) : (observe o s).tqpend = s.tqpend := rfl
@[simp] theorem observe_calpend (o : Output) (s : State) : (observe o s).calpend = s.calpend := rfl
@[simp] theorem observe_ctx (o : Output) (s : State) : (observe o s).ctx = s.ctx := rfl
@[simp] theorem observe_refused (o : Output) (s : State) : (observe o s).refused = s.refused := rfl
@[simp] theorem observe_script (o : Output) (s : State) : (observe o s).script = s.script := rfl
@[simp] theorem observe_outputs (o : Output) (s : State) : (observe o s).outputs = o :: s.outputs := rfl

/-! ### refuse -/

@[simp] theorem refuse_params (r : Reason) (s : State) : (refuse r s).params = s.params := rfl
@[simp] theorem refuse_cnt (r : Reason) (s : State) : (refuse r s).cnt = s.cnt := rfl
@[simp] theorem refuse_txccr (r : Reason) (s : State) : (refuse r s).txccr = s.txccr := rfl
@[simp] theorem refuse_txie (r : Reason) (s : State) : (refuse r s).txie = s.txie := rfl
@[simp] theorem refuse_txifg (r : Reason) (s : State) : (refuse r s).txifg = s.txifg := rfl
@[simp] theorem refuse_txoutmod (r : Reason) (s : State) : (refuse r s).txoutmod = s.txoutmod := rfl
@[simp] theorem refuse_txout (r : Reason) (s : State) : (refuse r s).txout = s.txout := rfl
@[simp] theorem refuse_rxccr (r : Reason) (s : State) : (refuse r s).rxccr = s.rxccr := rfl
@[simp] theorem refuse_rxie (r : Reason) (s : State) : (refuse r s).rxie = s.rxie := rfl
@[simp] theorem refuse_rxifg (r : Reason) (s : State) : (refuse r s).rxifg = s.rxifg := rfl
@[simp] theorem refuse_rxcap (r : Reason) (s : State) : (refuse r s).rxcap = s.rxcap := rfl
@[simp] theorem refuse_rxscci (r : Reason) (s : State) : (refuse r s).rxscci = s.rxscci := rfl
@[simp] theorem refuse_rxin (r : Reason) (s : State) : (refuse r s).rxin = s.rxin := rfl
@[simp] theorem refuse_txshift (r : Reason) (s : State) : (refuse r s).txshift = s.txshift := rfl
@[simp] theorem refuse_txbitcnt (r : Reason) (s : State) : (refuse r s).txbitcnt = s.txbitcnt := rfl
@[simp] theorem refuse_rxshift (r : Reason) (s : State) : (refuse r s).rxshift = s.rxshift := rfl
@[simp] theorem refuse_rxbitcnt (r : Reason) (s : State) : (refuse r s).rxbitcnt = s.rxbitcnt := rfl
@[simp] theorem refuse_rxbuf (r : Reason) (s : State) : (refuse r s).rxbuf = s.rxbuf := rfl
@[simp] theorem refuse_rxfull (r : Reason) (s : State) : (refuse r s).rxfull = s.rxfull := rfl
@[simp] theorem refuse_wake (r : Reason) (s : State) : (refuse r s).wake = s.wake := rfl
@[simp] theorem refuse_pulsecount (r : Reason) (s : State) : (refuse r s).pulsecount = s.pulsecount := rfl
@[simp] theorem refuse_torqueticket (r : Reason) (s : State) : (refuse r s).torqueticket = s.torqueticket := rfl
@[simp] theorem refuse_lastedge (r : Reason) (s : State) : (refuse r s).lastedge = s.lastedge := rfl
@[simp] theorem refuse_lasttx (r : Reason) (s : State) : (refuse r s).lasttx = s.lasttx := rfl
@[simp] theorem refuse_rotcnt (r : Reason) (s : State) : (refuse r s).rotcnt = s.rotcnt := rfl
@[simp] theorem refuse_caloffset (r : Reason) (s : State) : (refuse r s).caloffset = s.caloffset := rfl
@[simp] theorem refuse_indicator (r : Reason) (s : State) : (refuse r s).indicator = s.indicator := rfl
@[simp] theorem refuse_mode (r : Reason) (s : State) : (refuse r s).mode = s.mode := rfl
@[simp] theorem refuse_calie (r : Reason) (s : State) : (refuse r s).calie = s.calie := rfl
@[simp] theorem refuse_tqpend (r : Reason) (s : State) : (refuse r s).tqpend = s.tqpend := rfl
@[simp] theorem refuse_calpend (r : Reason) (s : State) : (refuse r s).calpend = s.calpend := rfl
@[simp] theorem refuse_ctx (r : Reason) (s : State) : (refuse r s).ctx = s.ctx := rfl
@[simp] theorem refuse_refused (r : Reason) (s : State) : (refuse r s).refused = true := rfl
@[simp] theorem refuse_script (r : Reason) (s : State) : (refuse r s).script = s.script := rfl
@[simp] theorem refuse_outputs (r : Reason) (s : State) : (refuse r s).outputs = .refusal r :: s.outputs := rfl

/-! ### pushContext -/

@[simp] theorem pushContext_params (w : Who) (bs : List Byte) (s : State) : (pushContext w bs s).params = s.params := rfl
@[simp] theorem pushContext_cnt (w : Who) (bs : List Byte) (s : State) : (pushContext w bs s).cnt = s.cnt := rfl
@[simp] theorem pushContext_txccr (w : Who) (bs : List Byte) (s : State) : (pushContext w bs s).txccr = s.txccr := rfl
@[simp] theorem pushContext_txie (w : Who) (bs : List Byte) (s : State) : (pushContext w bs s).txie = s.txie := rfl
@[simp] theorem pushContext_txifg (w : Who) (bs : List Byte) (s : State) : (pushContext w bs s).txifg = s.txifg := rfl
@[simp] theorem pushContext_txoutmod (w : Who) (bs : List Byte) (s : State) : (pushContext w bs s).txoutmod = s.txoutmod := rfl
@[simp] theorem pushContext_txout (w : Who) (bs : List Byte) (s : State) : (pushContext w bs s).txout = s.txout := rfl
@[simp] theorem pushContext_rxccr (w : Who) (bs : List Byte) (s : State) : (pushContext w bs s).rxccr = s.rxccr := rfl
@[simp] theorem pushContext_rxie (w : Who) (bs : List Byte) (s : State) : (pushContext w bs s).rxie = s.rxie := rfl
@[simp] theorem pushContext_rxifg (w : Who) (bs : List Byte) (s : State) : (pushContext w bs s).rxifg = s.rxifg := rfl
@[simp] theorem pushContext_rxcap (w : Who) (bs : List Byte) (s : State) : (pushContext w bs s).rxcap = s.rxcap := rfl
@[simp] theorem pushContext_rxscci (w : Who) (bs : List Byte) (s : State) : (pushContext w bs s).rxscci = s.rxscci := rfl
@[simp] theorem pushContext_rxin (w : Who) (bs : List Byte) (s : State) : (pushContext w bs s).rxin = s.rxin := rfl
@[simp] theorem pushContext_txshift (w : Who) (bs : List Byte) (s : State) : (pushContext w bs s).txshift = s.txshift := rfl
@[simp] theorem pushContext_txbitcnt (w : Who) (bs : List Byte) (s : State) : (pushContext w bs s).txbitcnt = s.txbitcnt := rfl
@[simp] theorem pushContext_rxshift (w : Who) (bs : List Byte) (s : State) : (pushContext w bs s).rxshift = s.rxshift := rfl
@[simp] theorem pushContext_rxbitcnt (w : Who) (bs : List Byte) (s : State) : (pushContext w bs s).rxbitcnt = s.rxbitcnt := rfl
@[simp] theorem pushContext_rxbuf (w : Who) (bs : List Byte) (s : State) : (pushContext w bs s).rxbuf = s.rxbuf := rfl
@[simp] theorem pushContext_rxfull (w : Who) (bs : List Byte) (s : State) : (pushContext w bs s).rxfull = s.rxfull := rfl
@[simp] theorem pushContext_wake (w : Who) (bs : List Byte) (s : State) : (pushContext w bs s).wake = s.wake := rfl
@[simp] theorem pushContext_pulsecount (w : Who) (bs : List Byte) (s : State) : (pushContext w bs s).pulsecount = s.pulsecount := rfl
@[simp] theorem pushContext_torqueticket (w : Who) (bs : List Byte) (s : State) : (pushContext w bs s).torqueticket = s.torqueticket := rfl
@[simp] theorem pushContext_lastedge (w : Who) (bs : List Byte) (s : State) : (pushContext w bs s).lastedge = s.lastedge := rfl
@[simp] theorem pushContext_lasttx (w : Who) (bs : List Byte) (s : State) : (pushContext w bs s).lasttx = s.lasttx := rfl
@[simp] theorem pushContext_rotcnt (w : Who) (bs : List Byte) (s : State) : (pushContext w bs s).rotcnt = s.rotcnt := rfl
@[simp] theorem pushContext_caloffset (w : Who) (bs : List Byte) (s : State) : (pushContext w bs s).caloffset = s.caloffset := rfl
@[simp] theorem pushContext_indicator (w : Who) (bs : List Byte) (s : State) : (pushContext w bs s).indicator = s.indicator := rfl
@[simp] theorem pushContext_mode (w : Who) (bs : List Byte) (s : State) : (pushContext w bs s).mode = s.mode := rfl
@[simp] theorem pushContext_calie (w : Who) (bs : List Byte) (s : State) : (pushContext w bs s).calie = s.calie := rfl
@[simp] theorem pushContext_tqpend (w : Who) (bs : List Byte) (s : State) : (pushContext w bs s).tqpend = s.tqpend := rfl
@[simp] theorem pushContext_calpend (w : Who) (bs : List Byte) (s : State) : (pushContext w bs s).calpend = s.calpend := rfl
@[simp] theorem pushContext_ctx (w : Who) (bs : List Byte) (s : State) : (pushContext w bs s).ctx = ⟨w, bs⟩ :: s.ctx := rfl
@[simp] theorem pushContext_refused (w : Who) (bs : List Byte) (s : State) : (pushContext w bs s).refused = s.refused := rfl
@[simp] theorem pushContext_script (w : Who) (bs : List Byte) (s : State) : (pushContext w bs s).script = s.script := rfl
@[simp] theorem pushContext_outputs (w : Who) (bs : List Byte) (s : State) : (pushContext w bs s).outputs = s.outputs := rfl

/-! ### sendFrame -/

@[simp] theorem sendFrame_params (w : Who) (f : List Byte) (s : State) : (sendFrame w f s).params = s.params := rfl
@[simp] theorem sendFrame_cnt (w : Who) (f : List Byte) (s : State) : (sendFrame w f s).cnt = s.cnt := rfl
@[simp] theorem sendFrame_txccr (w : Who) (f : List Byte) (s : State) : (sendFrame w f s).txccr = s.txccr := rfl
@[simp] theorem sendFrame_txie (w : Who) (f : List Byte) (s : State) : (sendFrame w f s).txie = s.txie := rfl
@[simp] theorem sendFrame_txifg (w : Who) (f : List Byte) (s : State) : (sendFrame w f s).txifg = s.txifg := rfl
@[simp] theorem sendFrame_txoutmod (w : Who) (f : List Byte) (s : State) : (sendFrame w f s).txoutmod = s.txoutmod := rfl
@[simp] theorem sendFrame_txout (w : Who) (f : List Byte) (s : State) : (sendFrame w f s).txout = s.txout := rfl
@[simp] theorem sendFrame_rxccr (w : Who) (f : List Byte) (s : State) : (sendFrame w f s).rxccr = s.rxccr := rfl
@[simp] theorem sendFrame_rxie (w : Who) (f : List Byte) (s : State) : (sendFrame w f s).rxie = s.rxie := rfl
@[simp] theorem sendFrame_rxifg (w : Who) (f : List Byte) (s : State) : (sendFrame w f s).rxifg = s.rxifg := rfl
@[simp] theorem sendFrame_rxcap (w : Who) (f : List Byte) (s : State) : (sendFrame w f s).rxcap = s.rxcap := rfl
@[simp] theorem sendFrame_rxscci (w : Who) (f : List Byte) (s : State) : (sendFrame w f s).rxscci = s.rxscci := rfl
@[simp] theorem sendFrame_rxin (w : Who) (f : List Byte) (s : State) : (sendFrame w f s).rxin = s.rxin := rfl
@[simp] theorem sendFrame_txshift (w : Who) (f : List Byte) (s : State) : (sendFrame w f s).txshift = s.txshift := rfl
@[simp] theorem sendFrame_txbitcnt (w : Who) (f : List Byte) (s : State) : (sendFrame w f s).txbitcnt = s.txbitcnt := rfl
@[simp] theorem sendFrame_rxshift (w : Who) (f : List Byte) (s : State) : (sendFrame w f s).rxshift = s.rxshift := rfl
@[simp] theorem sendFrame_rxbitcnt (w : Who) (f : List Byte) (s : State) : (sendFrame w f s).rxbitcnt = s.rxbitcnt := rfl
@[simp] theorem sendFrame_rxbuf (w : Who) (f : List Byte) (s : State) : (sendFrame w f s).rxbuf = s.rxbuf := rfl
@[simp] theorem sendFrame_rxfull (w : Who) (f : List Byte) (s : State) : (sendFrame w f s).rxfull = s.rxfull := rfl
@[simp] theorem sendFrame_wake (w : Who) (f : List Byte) (s : State) : (sendFrame w f s).wake = s.wake := rfl
@[simp] theorem sendFrame_pulsecount (w : Who) (f : List Byte) (s : State) : (sendFrame w f s).pulsecount = s.pulsecount := rfl
@[simp] theorem sendFrame_torqueticket (w : Who) (f : List Byte) (s : State) : (sendFrame w f s).torqueticket = s.torqueticket := rfl
@[simp] theorem sendFrame_lastedge (w : Who) (f : List Byte) (s : State) : (sendFrame w f s).lastedge = s.lastedge := rfl
@[simp] theorem sendFrame_lasttx (w : Who) (f : List Byte) (s : State) : (sendFrame w f s).lasttx = s.lasttx := rfl
@[simp] theorem sendFrame_rotcnt (w : Who) (f : List Byte) (s : State) : (sendFrame w f s).rotcnt = s.rotcnt := rfl
@[simp] theorem sendFrame_caloffset (w : Who) (f : List Byte) (s : State) : (sendFrame w f s).caloffset = s.caloffset := rfl
@[simp] theorem sendFrame_indicator (w : Who) (f : List Byte) (s : State) : (sendFrame w f s).indicator = s.indicator := rfl
@[simp] theorem sendFrame_mode (w : Who) (f : List Byte) (s : State) : (sendFrame w f s).mode = s.mode := rfl
@[simp] theorem sendFrame_calie (w : Who) (f : List Byte) (s : State) : (sendFrame w f s).calie = s.calie := rfl
@[simp] theorem sendFrame_tqpend (w : Who) (f : List Byte) (s : State) : (sendFrame w f s).tqpend = s.tqpend := rfl
@[simp] theorem sendFrame_calpend (w : Who) (f : List Byte) (s : State) : (sendFrame w f s).calpend = s.calpend := rfl
@[simp] theorem sendFrame_ctx (w : Who) (f : List Byte) (s : State) : (sendFrame w f s).ctx = ⟨w, f⟩ :: s.ctx := rfl
@[simp] theorem sendFrame_refused (w : Who) (f : List Byte) (s : State) : (sendFrame w f s).refused = s.refused := rfl
@[simp] theorem sendFrame_script (w : Who) (f : List Byte) (s : State) : (sendFrame w f s).script = s.script := rfl
@[simp] theorem sendFrame_outputs (w : Who) (f : List Byte) (s : State) : (sendFrame w f s).outputs = .frame f :: s.outputs := rfl

/-! ### enterHandler -/

@[simp] theorem enterHandler_params (src : Source) (s : State) : (enterHandler src s).params = s.params := by cases src <;> rfl
@[simp] theorem enterHandler_cnt (src : Source) (s : State) : (enterHandler src s).cnt = s.cnt := by cases src <;> rfl
@[simp] theorem enterHandler_txccr (src : Source) (s : State) : (enterHandler src s).txccr = s.txccr := by cases src <;> rfl
@[simp] theorem enterHandler_txie (src : Source) (s : State) : (enterHandler src s).txie = s.txie := by cases src <;> rfl
@[simp] theorem enterHandler_txoutmod (src : Source) (s : State) : (enterHandler src s).txoutmod = s.txoutmod := by cases src <;> rfl
@[simp] theorem enterHandler_txout (src : Source) (s : State) : (enterHandler src s).txout = s.txout := by cases src <;> rfl
@[simp] theorem enterHandler_rxccr (src : Source) (s : State) : (enterHandler src s).rxccr = s.rxccr := by cases src <;> rfl
@[simp] theorem enterHandler_rxie (src : Source) (s : State) : (enterHandler src s).rxie = s.rxie := by cases src <;> rfl
@[simp] theorem enterHandler_rxcap (src : Source) (s : State) : (enterHandler src s).rxcap = s.rxcap := by cases src <;> rfl
@[simp] theorem enterHandler_rxscci (src : Source) (s : State) : (enterHandler src s).rxscci = s.rxscci := by cases src <;> rfl
@[simp] theorem enterHandler_rxin (src : Source) (s : State) : (enterHandler src s).rxin = s.rxin := by cases src <;> rfl
@[simp] theorem enterHandler_txshift (src : Source) (s : State) : (enterHandler src s).txshift = s.txshift := by cases src <;> rfl
@[simp] theorem enterHandler_txbitcnt (src : Source) (s : State) : (enterHandler src s).txbitcnt = s.txbitcnt := by cases src <;> rfl
@[simp] theorem enterHandler_rxshift (src : Source) (s : State) : (enterHandler src s).rxshift = s.rxshift := by cases src <;> rfl
@[simp] theorem enterHandler_rxbitcnt (src : Source) (s : State) : (enterHandler src s).rxbitcnt = s.rxbitcnt := by cases src <;> rfl
@[simp] theorem enterHandler_rxbuf (src : Source) (s : State) : (enterHandler src s).rxbuf = s.rxbuf := by cases src <;> rfl
@[simp] theorem enterHandler_rxfull (src : Source) (s : State) : (enterHandler src s).rxfull = s.rxfull := by cases src <;> rfl
@[simp] theorem enterHandler_wake (src : Source) (s : State) : (enterHandler src s).wake = s.wake := by cases src <;> rfl
@[simp] theorem enterHandler_pulsecount (src : Source) (s : State) : (enterHandler src s).pulsecount = s.pulsecount := by cases src <;> rfl
@[simp] theorem enterHandler_torqueticket (src : Source) (s : State) : (enterHandler src s).torqueticket = s.torqueticket := by cases src <;> rfl
@[simp] theorem enterHandler_lastedge (src : Source) (s : State) : (enterHandler src s).lastedge = s.lastedge := by cases src <;> rfl
@[simp] theorem enterHandler_lasttx (src : Source) (s : State) : (enterHandler src s).lasttx = s.lasttx := by cases src <;> rfl
@[simp] theorem enterHandler_rotcnt (src : Source) (s : State) : (enterHandler src s).rotcnt = s.rotcnt := by cases src <;> rfl
@[simp] theorem enterHandler_caloffset (src : Source) (s : State) : (enterHandler src s).caloffset = s.caloffset := by cases src <;> rfl
@[simp] theorem enterHandler_indicator (src : Source) (s : State) : (enterHandler src s).indicator = s.indicator := by cases src <;> rfl
@[simp] theorem enterHandler_mode (src : Source) (s : State) : (enterHandler src s).mode = s.mode := by cases src <;> rfl
@[simp] theorem enterHandler_calie (src : Source) (s : State) : (enterHandler src s).calie = s.calie := by cases src <;> rfl
@[simp] theorem enterHandler_ctx (src : Source) (s : State) : (enterHandler src s).ctx = s.ctx := by cases src <;> rfl
@[simp] theorem enterHandler_refused (src : Source) (s : State) : (enterHandler src s).refused = s.refused := by cases src <;> rfl
@[simp] theorem enterHandler_script (src : Source) (s : State) : (enterHandler src s).script = s.script := by cases src <;> rfl
@[simp] theorem enterHandler_outputs (src : Source) (s : State) : (enterHandler src s).outputs = s.outputs := by cases src <;> rfl
@[simp] theorem enterHandler_tx_txifg (s : State) : (enterHandler .tx s).txifg = false := rfl
@[simp] theorem enterHandler_tx_rxifg (s : State) : (enterHandler .tx s).rxifg = s.rxifg := rfl
@[simp] theorem enterHandler_tx_tqpend (s : State) : (enterHandler .tx s).tqpend = s.tqpend := rfl
@[simp] theorem enterHandler_tx_calpend (s : State) : (enterHandler .tx s).calpend = s.calpend := rfl
@[simp] theorem enterHandler_rx_txifg (s : State) : (enterHandler .rx s).txifg = s.txifg := rfl
@[simp] theorem enterHandler_rx_rxifg (s : State) : (enterHandler .rx s).rxifg = false := rfl
@[simp] theorem enterHandler_rx_tqpend (s : State) : (enterHandler .rx s).tqpend = s.tqpend := rfl
@[simp] theorem enterHandler_rx_calpend (s : State) : (enterHandler .rx s).calpend = s.calpend := rfl
@[simp] theorem enterHandler_torque_txifg (s : State) : (enterHandler .torque s).txifg = s.txifg := rfl
@[simp] theorem enterHandler_torque_rxifg (s : State) : (enterHandler .torque s).rxifg = s.rxifg := rfl
@[simp] theorem enterHandler_torque_tqpend (s : State) : (enterHandler .torque s).tqpend = false := rfl
@[simp] theorem enterHandler_torque_calpend (s : State) : (enterHandler .torque s).calpend = s.calpend := rfl
@[simp] theorem enterHandler_calibration_txifg (s : State) : (enterHandler .calibration s).txifg = s.txifg := rfl
@[simp] theorem enterHandler_calibration_rxifg (s : State) : (enterHandler .calibration s).rxifg = s.rxifg := rfl
@[simp] theorem enterHandler_calibration_tqpend (s : State) : (enterHandler .calibration s).tqpend = s.tqpend := rfl
@[simp] theorem enterHandler_calibration_calpend (s : State) : (enterHandler .calibration s).calpend = false := rfl

/-! ### txMatch -/

@[simp] theorem txMatch_params (s : State) : (txMatch s).params = s.params := rfl
@[simp] theorem txMatch_cnt (s : State) : (txMatch s).cnt = s.cnt := rfl
@[simp] theorem txMatch_txccr (s : State) : (txMatch s).txccr = s.txccr := rfl
@[simp] theorem txMatch_txie (s : State) : (txMatch s).txie = s.txie := rfl
@[simp] theorem txMatch_txifg (s : State) : (txMatch s).txifg = true := rfl
@[simp] theorem txMatch_txoutmod (s : State) : (txMatch s).txoutmod = s.txoutmod := rfl
@[simp] theorem txMatch_txout (s : State) : (txMatch s).txout = s.txoutmod := rfl
@[simp] theorem txMatch_rxccr (s : State) : (txMatch s).rxccr = s.rxccr := rfl
@[simp] theorem txMatch_rxie (s : State) : (txMatch s).rxie = s.rxie := rfl
@[simp] theorem txMatch_rxifg (s : State) : (txMatch s).rxifg = s.rxifg := rfl
@[simp] theorem txMatch_rxcap (s : State) : (txMatch s).rxcap = s.rxcap := rfl
@[simp] theorem txMatch_rxscci (s : State) : (txMatch s).rxscci = s.rxscci := rfl
@[simp] theorem txMatch_rxin (s : State) : (txMatch s).rxin = s.rxin := rfl
@[simp] theorem txMatch_txshift (s : State) : (txMatch s).txshift = s.txshift := rfl
@[simp] theorem txMatch_txbitcnt (s : State) : (txMatch s).txbitcnt = s.txbitcnt := rfl
@[simp] theorem txMatch_rxshift (s : State) : (txMatch s).rxshift = s.rxshift := rfl
@[simp] theorem txMatch_rxbitcnt (s : State) : (txMatch s).rxbitcnt = s.rxbitcnt := rfl
@[simp] theorem txMatch_rxbuf (s : State) : (txMatch s).rxbuf = s.rxbuf := rfl
@[simp] theorem txMatch_rxfull (s : State) : (txMatch s).rxfull = s.rxfull := rfl
@[simp] theorem txMatch_wake (s : State) : (txMatch s).wake = s.wake := rfl
@[simp] theorem txMatch_pulsecount (s : State) : (txMatch s).pulsecount = s.pulsecount := rfl
@[simp] theorem txMatch_torqueticket (s : State) : (txMatch s).torqueticket = s.torqueticket := rfl
@[simp] theorem txMatch_lastedge (s : State) : (txMatch s).lastedge = s.lastedge := rfl
@[simp] theorem txMatch_lasttx (s : State) : (txMatch s).lasttx = s.lasttx := rfl
@[simp] theorem txMatch_rotcnt (s : State) : (txMatch s).rotcnt = s.rotcnt := rfl
@[simp] theorem txMatch_caloffset (s : State) : (txMatch s).caloffset = s.caloffset := rfl
@[simp] theorem txMatch_indicator (s : State) : (txMatch s).indicator = s.indicator := rfl
@[simp] theorem txMatch_mode (s : State) : (txMatch s).mode = s.mode := rfl
@[simp] theorem txMatch_calie (s : State) : (txMatch s).calie = s.calie := rfl
@[simp] theorem txMatch_tqpend (s : State) : (txMatch s).tqpend = s.tqpend := rfl
@[simp] theorem txMatch_calpend (s : State) : (txMatch s).calpend = s.calpend := rfl
@[simp] theorem txMatch_ctx (s : State) : (txMatch s).ctx = s.ctx := rfl
@[simp] theorem txMatch_refused (s : State) : (txMatch s).refused = s.refused := rfl
@[simp] theorem txMatch_script (s : State) : (txMatch s).script = s.script := rfl
@[simp] theorem txMatch_outputs (s : State) : (txMatch s).outputs = if s.txout = s.txoutmod then s.outputs else .line s.cnt s.txoutmod :: s.outputs := rfl

/-! ### rxMatch -/

@[simp] theorem rxMatch_params (s : State) : (rxMatch s).params = s.params := rfl
@[simp] theorem rxMatch_cnt (s : State) : (rxMatch s).cnt = s.cnt := rfl
@[simp] theorem rxMatch_txccr (s : State) : (rxMatch s).txccr = s.txccr := rfl
@[simp] theorem rxMatch_txie (s : State) : (rxMatch s).txie = s.txie := rfl
@[simp] theorem rxMatch_txifg (s : State) : (rxMatch s).txifg = s.txifg := rfl
@[simp] theorem rxMatch_txoutmod (s : State) : (rxMatch s).txoutmod = s.txoutmod := rfl
@[simp] theorem rxMatch_txout (s : State) : (rxMatch s).txout = s.txout := rfl
@[simp] theorem rxMatch_rxccr (s : State) : (rxMatch s).rxccr = s.rxccr := rfl
@[simp] theorem rxMatch_rxie (s : State) : (rxMatch s).rxie = s.rxie := rfl
@[simp] theorem rxMatch_rxifg (s : State) : (rxMatch s).rxifg = true := rfl
@[simp] theorem rxMatch_rxcap (s : State) : (rxMatch s).rxcap = s.rxcap := rfl
@[simp] theorem rxMatch_rxscci (s : State) : (rxMatch s).rxscci = s.rxin := rfl
@[simp] theorem rxMatch_rxin (s : State) : (rxMatch s).rxin = s.rxin := rfl
@[simp] theorem rxMatch_txshift (s : State) : (rxMatch s).txshift = s.txshift := rfl
@[simp] theorem rxMatch_txbitcnt (s : State) : (rxMatch s).txbitcnt = s.txbitcnt := rfl
@[simp] theorem rxMatch_rxshift (s : State) : (rxMatch s).rxshift = s.rxshift := rfl
@[simp] theorem rxMatch_rxbitcnt (s : State) : (rxMatch s).rxbitcnt = s.rxbitcnt := rfl
@[simp] theorem rxMatch_rxbuf (s : State) : (rxMatch s).rxbuf = s.rxbuf := rfl
@[simp] theorem rxMatch_rxfull (s : State) : (rxMatch s).rxfull = s.rxfull := rfl
@[simp] theorem rxMatch_wake (s : State) : (rxMatch s).wake = s.wake := rfl
@[simp] theorem rxMatch_pulsecount (s : State) : (rxMatch s).pulsecount = s.pulsecount := rfl
@[simp] theorem rxMatch_torqueticket (s : State) : (rxMatch s).torqueticket = s.torqueticket := rfl
@[simp] theorem rxMatch_lastedge (s : State) : (rxMatch s).lastedge = s.lastedge := rfl
@[simp] theorem rxMatch_lasttx (s : State) : (rxMatch s).lasttx = s.lasttx := rfl
@[simp] theorem rxMatch_rotcnt (s : State) : (rxMatch s).rotcnt = s.rotcnt := rfl
@[simp] theorem rxMatch_caloffset (s : State) : (rxMatch s).caloffset = s.caloffset := rfl
@[simp] theorem rxMatch_indicator (s : State) : (rxMatch s).indicator = s.indicator := rfl
@[simp] theorem rxMatch_mode (s : State) : (rxMatch s).mode = s.mode := rfl
@[simp] theorem rxMatch_calie (s : State) : (rxMatch s).calie = s.calie := rfl
@[simp] theorem rxMatch_tqpend (s : State) : (rxMatch s).tqpend = s.tqpend := rfl
@[simp] theorem rxMatch_calpend (s : State) : (rxMatch s).calpend = s.calpend := rfl
@[simp] theorem rxMatch_ctx (s : State) : (rxMatch s).ctx = s.ctx := rfl
@[simp] theorem rxMatch_refused (s : State) : (rxMatch s).refused = s.refused := rfl
@[simp] theorem rxMatch_script (s : State) : (rxMatch s).script = s.script := rfl
@[simp] theorem rxMatch_outputs (s : State) : (rxMatch s).outputs = s.outputs := rfl

/-! ### rxCapture -/

@[simp] theorem rxCapture_params (s : State) : (rxCapture s).params = s.params := rfl
@[simp] theorem rxCapture_cnt (s : State) : (rxCapture s).cnt = s.cnt := rfl
@[simp] theorem rxCapture_txccr (s : State) : (rxCapture s).txccr = s.txccr := rfl
@[simp] theorem rxCapture_txie (s : State) : (rxCapture s).txie = s.txie := rfl
@[simp] theorem rxCapture_txifg (s : State) : (rxCapture s).txifg = s.txifg := rfl
@[simp] theorem rxCapture_txoutmod (s : State) : (rxCapture s).txoutmod = s.txoutmod := rfl
@[simp] theorem rxCapture_txout (s : State) : (rxCapture s).txout = s.txout := rfl
@[simp] theorem rxCapture_rxccr (s : State) : (rxCapture s).rxccr = s.cnt := rfl
@[simp] theorem rxCapture_rxie (s : State) : (rxCapture s).rxie = s.rxie := rfl
@[simp] theorem rxCapture_rxifg (s : State) : (rxCapture s).rxifg = true := rfl
@[simp] theorem rxCapture_rxcap (s : State) : (rxCapture s).rxcap = s.rxcap := rfl
@[simp] theorem rxCapture_rxscci (s : State) : (rxCapture s).rxscci = s.rxscci := rfl
@[simp] theorem rxCapture_rxin (s : State) : (rxCapture s).rxin = s.rxin := rfl
@[simp] theorem rxCapture_txshift (s : State) : (rxCapture s).txshift = s.txshift := rfl
@[simp] theorem rxCapture_txbitcnt (s : State) : (rxCapture s).txbitcnt = s.txbitcnt := rfl
@[simp] theorem rxCapture_rxshift (s : State) : (rxCapture s).rxshift = s.rxshift := rfl
@[simp] theorem rxCapture_rxbitcnt (s : State) : (rxCapture s).rxbitcnt = s.rxbitcnt := rfl
@[simp] theorem rxCapture_rxbuf (s : State) : (rxCapture s).rxbuf = s.rxbuf := rfl
@[simp] theorem rxCapture_rxfull (s : State) : (rxCapture s).rxfull = s.rxfull := rfl
@[simp] theorem rxCapture_wake (s : State) : (rxCapture s).wake = s.wake := rfl
@[simp] theorem rxCapture_pulsecount (s : State) : (rxCapture s).pulsecount = s.pulsecount := rfl
@[simp] theorem rxCapture_torqueticket (s : State) : (rxCapture s).torqueticket = s.torqueticket := rfl
@[simp] theorem rxCapture_lastedge (s : State) : (rxCapture s).lastedge = s.lastedge := rfl
@[simp] theorem rxCapture_lasttx (s : State) : (rxCapture s).lasttx = s.lasttx := rfl
@[simp] theorem rxCapture_rotcnt (s : State) : (rxCapture s).rotcnt = s.rotcnt := rfl
@[simp] theorem rxCapture_caloffset (s : State) : (rxCapture s).caloffset = s.caloffset := rfl
@[simp] theorem rxCapture_indicator (s : State) : (rxCapture s).indicator = s.indicator := rfl
@[simp] theorem rxCapture_mode (s : State) : (rxCapture s).mode = s.mode := rfl
@[simp] theorem rxCapture_calie (s : State) : (rxCapture s).calie = s.calie := rfl
@[simp] theorem rxCapture_tqpend (s : State) : (rxCapture s).tqpend = s.tqpend := rfl
@[simp] theorem rxCapture_calpend (s : State) : (rxCapture s).calpend = s.calpend := rfl
@[simp] theorem rxCapture_ctx (s : State) : (rxCapture s).ctx = s.ctx := rfl
@[simp] theorem rxCapture_refused (s : State) : (rxCapture s).refused = s.refused := rfl
@[simp] theorem rxCapture_script (s : State) : (rxCapture s).script = s.script := rfl
@[simp] theorem rxCapture_outputs (s : State) : (rxCapture s).outputs = s.outputs := rfl

end Sys2Proof.Machine
end

