-- ==== Sys2Proof/Laws/Ops.lean ====
section
/-! SUPPORT. One lemma for each shared operation that says what it does, in the terms the rules use. -/

namespace Sys2Proof.Machine

/-! ### Parameters and arithmetic -/

theorem bitPeriodTicks_ofTicks (t : Nat) : bitPeriodTicks (bitPeriodOfTicks t) = t := by
  unfold bitPeriodOfTicks
  split
  · simp only [bitPeriodTicks]; omega
  · by_cases h : t < 2
    · simp [bitPeriodTicks, h]
    · simp only [bitPeriodTicks, h, if_false]; split <;> omega

/-- R8: an instance is admitted exactly when 2 <= T <= 43690. -/
theorem admittedPeriod_iff (p : BitPeriod) :
    admittedPeriod p = true ↔ 2 ≤ bitPeriodTicks p ∧ bitPeriodTicks p ≤ 43690 := by
  cases p with
  | admitted k => simp [admittedPeriod, bitPeriodTicks]; omega
  | outside n => simp only [admittedPeriod, bitPeriodTicks]; split <;> simp <;> omega

/-- R63: the two bytes of a 16-bit field, by value. -/
theorem littleEndian_eq (w : Word) :
    littleEndian w = [BitVec.ofNat 8 (w.toNat % 256), BitVec.ofNat 8 (w.toNat / 256)] := by
  have hw := w.isLt
  simp only [littleEndian, List.cons.injEq, and_true]
  constructor <;> apply BitVec.eq_of_toNat_eq <;> simp [Nat.shiftRight_eq_div_pow]

theorem advance_toNat (v : Word) (n : Nat) : (advance v n).toNat = (v.toNat + n) % 65536 := by
  simp [advance, BitVec.toNat_add]

theorem advance_eq_ofNat (v : Word) (n : Nat) : advance v n = BitVec.ofNat 16 (v.toNat + n) := by
  apply BitVec.eq_of_toNat_eq; simp [advance_toNat]

theorem elapsedTicks_eq_sub (finish start : Word) : elapsedTicks finish start = finish - start := by
  apply BitVec.eq_of_toNat_eq
  have hf := finish.isLt
  have hs := start.isLt
  simp only [elapsedTicks, BitVec.toNat_ofNat, BitVec.toNat_sub]
  split <;> omega

theorem packCharacter_toNat (b : Byte) : (packCharacter b).toNat = b.toNat * 2 + 512 := by
  revert b; decide

theorem shiftIn_toNat (reg : Byte) (sample : Bool) :
    (shiftIn reg sample).toNat = reg.toNat / 2 + 128 * sample.toNat := by
  revert reg sample; decide

theorem saturatingSucc_toNat (n : Word) : (saturatingSucc n).toNat = min (n.toNat + 1) 0xFFFF := by
  have hn := n.isLt
  unfold saturatingSucc
  split
  · next h => simp [h]
  · next h =>
    have : n.toNat ≠ 65535 := fun e => h (BitVec.eq_of_toNat_eq e)
    simp [BitVec.toNat_add]; omega

/-! ### Framer -/

theorem xorBytes_foldl (xs : List Byte) (a : Byte) : xs.foldl (fun acc x => acc ^^^ x) a = a ^^^ xorBytes xs := by
  induction xs generalizing a with
  | nil => simp [xorBytes]
  | cons x xs ih => simp only [xorBytes, List.foldl_cons] at *; rw [ih, ih (0 ^^^ x)]; simp [BitVec.xor_assoc]

theorem xorBytes_append (xs ys : List Byte) : xorBytes (xs ++ ys) = xorBytes xs ^^^ xorBytes ys := by
  rw [xorBytes, List.foldl_append, xorBytes_foldl]; rfl

theorem payloadLengthOk_iff (p : List Byte) : payloadLengthOk p = true ↔ 1 ≤ p.length ∧ p.length ≤ 256 := by
  simp [payloadLengthOk]

/-- R181: what FRAME_BUILD answers, and when it refuses. -/
theorem buildFrame_eq_some_iff (p f : List Byte) :
    buildFrame p = some f ↔ (1 ≤ p.length ∧ p.length ≤ 256) ∧ f = frameBody p ++ [xorBytes (frameBody p)] := by
  unfold buildFrame
  split
  · next h => simp [(payloadLengthOk_iff p).1 h, eq_comm]
  · next h => rw [payloadLengthOk_iff] at h; simp [h]

theorem buildFrame_eq_none_iff (p : List Byte) : buildFrame p = none ↔ ¬(1 ≤ p.length ∧ p.length ≤ 256) := by
  unfold buildFrame
  split
  · next h => simp [(payloadLengthOk_iff p).1 h]
  · next h => rw [payloadLengthOk_iff] at h; simp [h]

/-! ### Handlers and contexts -/

theorem holdsContext_eq_false_iff (w : Who) (s : State) : holdsContext w s = false ↔ ∀ c ∈ s.ctx, c.who ≠ w := by
  simp [holdsContext]

/-- R243, per source. -/
theorem txEnabled_iff (s : State) : handlerEnabled .tx s = true ↔ s.txifg = true ∧ s.txie = true := by
  simp [handlerEnabled, pending, enable, active]

theorem rxEnabled_iff (s : State) : handlerEnabled .rx s = true ↔ s.rxifg = true ∧ s.rxie = true := by
  simp [handlerEnabled, pending, enable, active]

theorem torqueEnabled_iff (s : State) :
    handlerEnabled .torque s = true ↔ s.tqpend = true ∧ ∀ c ∈ s.ctx, c.who ≠ .TQ := by
  simp [handlerEnabled, pending, enable, active, holdsContext]

theorem calibrationEnabled_iff (s : State) :
    handlerEnabled .calibration s = true ↔ s.calpend = true ∧ s.calie = true ∧ ∀ c ∈ s.ctx, c.who ≠ .CAL := by
  simp [handlerEnabled, pending, enable, active, holdsContext, and_assoc]

theorem nextByte_eq (w : Who) (later : List Byte) (below : List Context) :
    nextByte w later below = if later = [] then below else ⟨w, later⟩ :: below := by
  cases later <;> simp [nextByte]

theorem classifyGap_eq_newGroup_iff (p : Params) (gap : Word) :
    classifyGap p gap = .newGroup ↔ p.maskTicks.toNat < gap.toNat := by
  simp [classifyGap, BitVec.lt_def]

/-- R201's counting of one edge: every field that is not named is as it was. -/
theorem countEdge_eq (s : State) :
    countEdge s = { s with
      lastedge := s.cnt
      torqueticket := if s.params.maskTicks.toNat < (elapsedTicks s.cnt s.lastedge).toNat then s.torqueticket + 1
        else s.torqueticket
      pulsecount := if s.params.maskTicks.toNat < (elapsedTicks s.cnt s.lastedge).toNat then 1
        else saturatingSucc s.pulsecount } := by
  unfold countEdge
  by_cases h : s.params.maskTicks.toNat < (elapsedTicks s.cnt s.lastedge).toNat
  · simp [(classifyGap_eq_newGroup_iff s.params _).2 h, h]
  · have : classifyGap s.params (elapsedTicks s.cnt s.lastedge) = .sameGroup := by
      simp [classifyGap, BitVec.lt_def] at h ⊢; omega
    simp [this, h]

end Sys2Proof.Machine
end

