-- ==== Sys2Proof/Laws/Meanings.lean ====
section
/-! SUPPORT. What the parts of the meanings do to each field. -/

namespace Sys2Proof.Machine

/-! ### countEdge: what its own three fields become is `countEdge_eq` -/

@[simp] theorem countEdge_params (s : State) : (countEdge s).params = s.params := by rw [countEdge_eq]
@[simp] theorem countEdge_cnt (s : State) : (countEdge s).cnt = s.cnt := by rw [countEdge_eq]
@[simp] theorem countEdge_txccr (s : State) : (countEdge s).txccr = s.txccr := by rw [countEdge_eq]
@[simp] theorem countEdge_txie (s : State) : (countEdge s).txie = s.txie := by rw [countEdge_eq]
@[simp] theorem countEdge_txifg (s : State) : (countEdge s).txifg = s.txifg := by rw [countEdge_eq]
@[simp] theorem countEdge_txoutmod (s : State) : (countEdge s).txoutmod = s.txoutmod := by rw [countEdge_eq]
@[simp] theorem countEdge_txout (s : State) : (countEdge s).txout = s.txout := by rw [countEdge_eq]
@[simp] theorem countEdge_rxccr (s : State) : (countEdge s).rxccr = s.rxccr := by rw [countEdge_eq]
@[simp] theorem countEdge_rxie (s : State) : (countEdge s).rxie = s.rxie := by rw [countEdge_eq]
@[simp] theorem countEdge_rxifg (s : State) : (countEdge s).rxifg = s.rxifg := by rw [countEdge_eq]
@[simp] theorem countEdge_rxcap (s : State) : (countEdge s).rxcap = s.rxcap := by rw [countEdge_eq]
@[simp] theorem countEdge_rxscci (s : State) : (countEdge s).rxscci = s.rxscci := by rw [countEdge_eq]
@[simp] theorem countEdge_rxin (s : State) : (countEdge s).rxin = s.rxin := by rw [countEdge_eq]
@[simp] theorem countEdge_txshift (s : State) : (countEdge s).txshift = s.txshift := by rw [countEdge_eq]
@[simp] theorem countEdge_txbitcnt (s : State) : (countEdge s).txbitcnt = s.txbitcnt := by rw [countEdge_eq]
@[simp] theorem countEdge_rxshift (s : State) : (countEdge s).rxshift = s.rxshift := by rw [countEdge_eq]
@[simp] theorem countEdge_rxbitcnt (s : State) : (countEdge s).rxbitcnt = s.rxbitcnt := by rw [countEdge_eq]
@[simp] theorem countEdge_rxbuf (s : State) : (countEdge s).rxbuf = s.rxbuf := by rw [countEdge_eq]
@[simp] theorem countEdge_rxfull (s : State) : (countEdge s).rxfull = s.rxfull := by rw [countEdge_eq]
@[simp] theorem countEdge_wake (s : State) : (countEdge s).wake = s.wake := by rw [countEdge_eq]
@[simp] theorem countEdge_lasttx (s : State) : (countEdge s).lasttx = s.lasttx := by rw [countEdge_eq]
@[simp] theorem countEdge_rotcnt (s : State) : (countEdge s).rotcnt = s.rotcnt := by rw [countEdge_eq]
@[simp] theorem countEdge_caloffset (s : State) : (countEdge s).caloffset = s.caloffset := by rw [countEdge_eq]
@[simp] theorem countEdge_indicator (s : State) : (countEdge s).indicator = s.indicator := by rw [countEdge_eq]
@[simp] theorem countEdge_mode (s : State) : (countEdge s).mode = s.mode := by rw [countEdge_eq]
@[simp] theorem countEdge_calie (s : State) : (countEdge s).calie = s.calie := by rw [countEdge_eq]
@[simp] theorem countEdge_tqpend (s : State) : (countEdge s).tqpend = s.tqpend := by rw [countEdge_eq]
@[simp] theorem countEdge_calpend (s : State) : (countEdge s).calpend = s.calpend := by rw [countEdge_eq]
@[simp] theorem countEdge_ctx (s : State) : (countEdge s).ctx = s.ctx := by rw [countEdge_eq]
@[simp] theorem countEdge_refused (s : State) : (countEdge s).refused = s.refused := by rw [countEdge_eq]
@[simp] theorem countEdge_script (s : State) : (countEdge s).script = s.script := by rw [countEdge_eq]
@[simp] theorem countEdge_outputs (s : State) : (countEdge s).outputs = s.outputs := by rw [countEdge_eq]
@[simp] theorem countEdge_lastedge (s : State) : (countEdge s).lastedge = s.cnt := by rw [countEdge_eq]

theorem countEdge_pulsecount (s : State) : (countEdge s).pulsecount =
    if s.params.maskTicks.toNat < (elapsedTicks s.cnt s.lastedge).toNat then 1 else saturatingSucc s.pulsecount := by
  rw [countEdge_eq]

theorem countEdge_torqueticket (s : State) : (countEdge s).torqueticket =
    if s.params.maskTicks.toNat < (elapsedTicks s.cnt s.lastedge).toNat then s.torqueticket + 1
    else s.torqueticket := by
  rw [countEdge_eq]

/-! ### recordRotation -/

@[simp] theorem recordRotation_params (s : State) : (recordRotation s).params = s.params := rfl
@[simp] theorem recordRotation_cnt (s : State) : (recordRotation s).cnt = s.cnt := rfl
@[simp] theorem recordRotation_txccr (s : State) : (recordRotation s).txccr = s.txccr := rfl
@[simp] theorem recordRotation_txie (s : State) : (recordRotation s).txie = s.txie := rfl
@[simp] theorem recordRotation_txifg (s : State) : (recordRotation s).txifg = s.txifg := rfl
@[simp] theorem recordRotation_txoutmod (s : State) : (recordRotation s).txoutmod = s.txoutmod := rfl
@[simp] theorem recordRotation_txout (s : State) : (recordRotation s).txout = s.txout := rfl
@[simp] theorem recordRotation_rxccr (s : State) : (recordRotation s).rxccr = s.rxccr := rfl
@[simp] theorem recordRotation_rxie (s : State) : (recordRotation s).rxie = s.rxie := rfl
@[simp] theorem recordRotation_rxifg (s : State) : (recordRotation s).rxifg = s.rxifg := rfl
@[simp] theorem recordRotation_rxcap (s : State) : (recordRotation s).rxcap = s.rxcap := rfl
@[simp] theorem recordRotation_rxscci (s : State) : (recordRotation s).rxscci = s.rxscci := rfl
@[simp] theorem recordRotation_rxin (s : State) : (recordRotation s).rxin = s.rxin := rfl
@[simp] theorem recordRotation_txshift (s : State) : (recordRotation s).txshift = s.txshift := rfl
@[simp] theorem recordRotation_txbitcnt (s : State) : (recordRotation s).txbitcnt = s.txbitcnt := rfl
@[simp] theorem recordRotation_rxshift (s : State) : (recordRotation s).rxshift = s.rxshift := rfl
@[simp] theorem recordRotation_rxbitcnt (s : State) : (recordRotation s).rxbitcnt = s.rxbitcnt := rfl
@[simp] theorem recordRotation_rxbuf (s : State) : (recordRotation s).rxbuf = s.rxbuf := rfl
@[simp] theorem recordRotation_rxfull (s : State) : (recordRotation s).rxfull = s.rxfull := rfl
@[simp] theorem recordRotation_wake (s : State) : (recordRotation s).wake = s.wake := rfl
@[simp] theorem recordRotation_pulsecount (s : State) : (recordRotation s).pulsecount = s.pulsecount := rfl
@[simp] theorem recordRotation_torqueticket (s : State) : (recordRotation s).torqueticket = 0 := rfl
@[simp] theorem recordRotation_lastedge (s : State) : (recordRotation s).lastedge = s.lastedge := rfl
@[simp] theorem recordRotation_lasttx (s : State) : (recordRotation s).lasttx = s.cnt := rfl
@[simp] theorem recordRotation_rotcnt (s : State) : (recordRotation s).rotcnt = s.rotcnt + 1 := rfl
@[simp] theorem recordRotation_caloffset (s : State) : (recordRotation s).caloffset = s.caloffset := rfl
@[simp] theorem recordRotation_indicator (s : State) : (recordRotation s).indicator = s.indicator := rfl
@[simp] theorem recordRotation_mode (s : State) : (recordRotation s).mode = s.mode := rfl
@[simp] theorem recordRotation_calie (s : State) : (recordRotation s).calie = s.calie := rfl
@[simp] theorem recordRotation_tqpend (s : State) : (recordRotation s).tqpend = s.tqpend := rfl
@[simp] theorem recordRotation_calpend (s : State) : (recordRotation s).calpend = s.calpend := rfl
@[simp] theorem recordRotation_ctx (s : State) : (recordRotation s).ctx = s.ctx := rfl
@[simp] theorem recordRotation_refused (s : State) : (recordRotation s).refused = s.refused := rfl
@[simp] theorem recordRotation_script (s : State) : (recordRotation s).script = s.script := rfl
@[simp] theorem recordRotation_outputs (s : State) : (recordRotation s).outputs = s.outputs := rfl

/-! ### armTransmitter -/

@[simp] theorem armTransmitter_params (b : Byte) (s : State) : (armTransmitter b s).params = s.params := rfl
@[simp] theorem armTransmitter_cnt (b : Byte) (s : State) : (armTransmitter b s).cnt = s.cnt := rfl
@[simp] theorem armTransmitter_txccr (b : Byte) (s : State) : (armTransmitter b s).txccr = advance s.cnt (bitTicks s) := rfl
@[simp] theorem armTransmitter_txie (b : Byte) (s : State) : (armTransmitter b s).txie = true := rfl
@[simp] theorem armTransmitter_txifg (b : Byte) (s : State) : (armTransmitter b s).txifg = false := rfl
@[simp] theorem armTransmitter_txoutmod (b : Byte) (s : State) : (armTransmitter b s).txoutmod = true := rfl
@[simp] theorem armTransmitter_txout (b : Byte) (s : State) : (armTransmitter b s).txout = s.txout := rfl
@[simp] theorem armTransmitter_rxccr (b : Byte) (s : State) : (armTransmitter b s).rxccr = s.rxccr := rfl
@[simp] theorem armTransmitter_rxie (b : Byte) (s : State) : (armTransmitter b s).rxie = s.rxie := rfl
@[simp] theorem armTransmitter_rxifg (b : Byte) (s : State) : (armTransmitter b s).rxifg = s.rxifg := rfl
@[simp] theorem armTransmitter_rxcap (b : Byte) (s : State) : (armTransmitter b s).rxcap = s.rxcap := rfl
@[simp] theorem armTransmitter_rxscci (b : Byte) (s : State) : (armTransmitter b s).rxscci = s.rxscci := rfl
@[simp] theorem armTransmitter_rxin (b : Byte) (s : State) : (armTransmitter b s).rxin = s.rxin := rfl
@[simp] theorem armTransmitter_txshift (b : Byte) (s : State) : (armTransmitter b s).txshift = packCharacter b := rfl
@[simp] theorem armTransmitter_txbitcnt (b : Byte) (s : State) : (armTransmitter b s).txbitcnt = 10 := rfl
@[simp] theorem armTransmitter_rxshift (b : Byte) (s : State) : (armTransmitter b s).rxshift = s.rxshift := rfl
@[simp] theorem armTransmitter_rxbitcnt (b : Byte) (s : State) : (armTransmitter b s).rxbitcnt = s.rxbitcnt := rfl
@[simp] theorem armTransmitter_rxbuf (b : Byte) (s : State) : (armTransmitter b s).rxbuf = s.rxbuf := rfl
@[simp] theorem armTransmitter_rxfull (b : Byte) (s : State) : (armTransmitter b s).rxfull = s.rxfull := rfl
@[simp] theorem armTransmitter_wake (b : Byte) (s : State) : (armTransmitter b s).wake = s.wake := rfl
@[simp] theorem armTransmitter_pulsecount (b : Byte) (s : State) : (armTransmitter b s).pulsecount = s.pulsecount := rfl
@[simp] theorem armTransmitter_torqueticket (b : Byte) (s : State) : (armTransmitter b s).torqueticket = s.torqueticket := rfl
@[simp] theorem armTransmitter_lastedge (b : Byte) (s : State) : (armTransmitter b s).lastedge = s.lastedge := rfl
@[simp] theorem armTransmitter_lasttx (b : Byte) (s : State) : (armTransmitter b s).lasttx = s.lasttx := rfl
@[simp] theorem armTransmitter_rotcnt (b : Byte) (s : State) : (armTransmitter b s).rotcnt = s.rotcnt := rfl
@[simp] theorem armTransmitter_caloffset (b : Byte) (s : State) : (armTransmitter b s).caloffset = s.caloffset := rfl
@[simp] theorem armTransmitter_indicator (b : Byte) (s : State) : (armTransmitter b s).indicator = s.indicator := rfl
@[simp] theorem armTransmitter_mode (b : Byte) (s : State) : (armTransmitter b s).mode = s.mode := rfl
@[simp] theorem armTransmitter_calie (b : Byte) (s : State) : (armTransmitter b s).calie = s.calie := rfl
@[simp] theorem armTransmitter_tqpend (b : Byte) (s : State) : (armTransmitter b s).tqpend = s.tqpend := rfl
@[simp] theorem armTransmitter_calpend (b : Byte) (s : State) : (armTransmitter b s).calpend = s.calpend := rfl
@[simp] theorem armTransmitter_ctx (b : Byte) (s : State) : (armTransmitter b s).ctx = s.ctx := rfl
@[simp] theorem armTransmitter_refused (b : Byte) (s : State) : (armTransmitter b s).refused = s.refused := rfl
@[simp] theorem armTransmitter_script (b : Byte) (s : State) : (armTransmitter b s).script = s.script := rfl
@[simp] theorem armTransmitter_outputs (b : Byte) (s : State) : (armTransmitter b s).outputs = s.outputs := rfl

/-! ### resetBlock -/

@[simp] theorem resetBlock_params (s : State) : (resetBlock s).params = s.params := rfl
@[simp] theorem resetBlock_refused (s : State) : (resetBlock s).refused = s.refused := rfl
@[simp] theorem resetBlock_script (s : State) : (resetBlock s).script = s.script := rfl
@[simp] theorem resetBlock_outputs (s : State) : (resetBlock s).outputs = s.outputs := rfl

end Sys2Proof.Machine
end

