-- ==== Sys2Proof/Laws/Exec.lean ====
section
/-! SUPPORT. One lemma for each operation that says everything a step of it can do: if it answers a next state, then
its condition held and the next state is exactly this one. -/

namespace Sys2Proof.Machine

variable {s t : State}

theorem txCompare_eq (s : State) : txCompare s = { s with
    txout := if s.cnt = s.txccr then s.txoutmod else s.txout
    txifg := if s.cnt = s.txccr then true else s.txifg
    outputs := if s.cnt = s.txccr then (if s.txout = s.txoutmod then s.outputs
      else .line s.cnt s.txoutmod :: s.outputs) else s.outputs } := by
  unfold txCompare
  split
  · rfl
  · rfl

theorem rxCompare_eq (s : State) : rxCompare s = { s with
    rxscci := if s.rxcap = false ∧ s.cnt = s.rxccr then s.rxin else s.rxscci
    rxifg := if s.rxcap = false ∧ s.cnt = s.rxccr then true else s.rxifg } := by
  unfold rxCompare
  split
  · rfl
  · rfl

/-- R125, R126, R151 in one record. -/
theorem execTick_eq (s : State) : execTick s = .next { s with
    cnt := s.cnt + 1
    txout := if s.cnt + 1 = s.txccr then s.txoutmod else s.txout
    txifg := if s.cnt + 1 = s.txccr then true else s.txifg
    rxscci := if s.rxcap = false ∧ s.cnt + 1 = s.rxccr then s.rxin else s.rxscci
    rxifg := if s.rxcap = false ∧ s.cnt + 1 = s.rxccr then true else s.rxifg
    outputs := if s.cnt + 1 = s.txccr then (if s.txout = s.txoutmod then s.outputs
      else .line (s.cnt + 1) s.txoutmod :: s.outputs) else s.outputs } := by
  rw [execTick, rxCompare_eq, txCompare_eq]; rfl

theorem execRxLine_eq (v : Bool) (s : State) : execRxLine v s = .next { s with
    rxin := v
    rxccr := if s.rxcap = true ∧ s.rxin = true ∧ v = false then s.cnt else s.rxccr
    rxifg := if s.rxcap = true ∧ s.rxin = true ∧ v = false then true else s.rxifg } := by
  unfold execRxLine rxCapture
  dsimp only
  split
  · rfl
  · rfl

theorem execRxRead_next (h : execRxRead s = .next t) : s.ctx = [] ∧
    t = observe (.received s.rxbuf s.rxfull) { s with rxfull := false, wake := false } := by
  unfold execRxRead at h
  split at h
  · next hc => exact ⟨by simpa using hc, by simpa using h.symm⟩
  · cases h

theorem execTorqueEdge_next (h : execTorqueEdge s = .next t) : t = { s with tqpend := true } := by
  simpa [execTorqueEdge] using h.symm

theorem execCalExpiry_next (h : execCalExpiry s = .next t) : t = { s with calpend := s.calpend || s.calie } := by
  simpa [execCalExpiry] using h.symm

theorem execModeEdge_next (h : execModeEdge s = .next t) :
    t = { s with mode := otherMode s.mode, calie := modeBit (otherMode s.mode), calpend := false } := by
  simpa [execModeEdge] using h.symm

theorem execFgSend_next {b : Byte} (h : execFgSend b s = .next t) : s.ctx = [] ∧ t = pushContext .FG [b] s := by
  unfold execFgSend at h
  split at h
  · next hc => exact ⟨by simpa using hc, by simpa using h.symm⟩
  · cases h

theorem execFgFrame_next {p : List Byte} (h : execFgFrame p s = .next t) : s.ctx = [] ∧
    ((∃ f, buildFrame p = some f ∧ t = sendFrame .FG f s) ∨
      buildFrame p = none ∧ t = refuse .badPayloadLength s) := by
  unfold execFgFrame at h
  split at h
  · next hc =>
    refine ⟨by simpa using hc, ?_⟩
    split at h
    · next f hf => exact .inl ⟨f, hf, by simpa using h.symm⟩
    · next hf => exact .inr ⟨hf, by simpa using h.symm⟩
  · cases h

theorem execReset_next (h : execReset s = .next t) : t = resetBlock s := by
  simpa [execReset] using h.symm

theorem execTxIsr_next (h : execTxIsr s = .next t) : s.txifg = true ∧ s.txie = true ∧
    (s.txbitcnt = 0 ∧ t = { s with txifg := false, txccr := advance s.txccr (bitTicks s), txie := false } ∨
     s.txbitcnt ≠ 0 ∧ t = { s with
        txifg := false
        txccr := advance s.txccr (bitTicks s)
        txoutmod := s.txshift.getLsbD 0
        txshift := s.txshift >>> 1
        txbitcnt := s.txbitcnt - 1 }) := by
  unfold execTxIsr at h
  split at h
  · next he =>
    rw [txEnabled_iff] at he
    refine ⟨he.1, he.2, ?_⟩
    by_cases hb : s.txbitcnt = 0
    · exact .inl ⟨hb, (Host.Outcome.next.inj ((if_pos hb).symm.trans h)).symm⟩
    · exact .inr ⟨hb, (Host.Outcome.next.inj ((if_neg hb).symm.trans h)).symm⟩
  · cases h

theorem execRxIsr_next (h : execRxIsr s = .next t) : s.rxifg = true ∧ s.rxie = true ∧
    (s.rxcap = true ∧ t = { s with
        rxifg := false
        rxccr := advance (advance s.rxccr (bitTicks s)) (halfTicks s)
        rxcap := false
        rxbitcnt := 8 } ∨
     s.rxcap = false ∧ s.rxbitcnt ≠ 1 ∧ t = { s with
        rxifg := false
        rxccr := advance s.rxccr (bitTicks s)
        rxshift := shiftIn s.rxshift s.rxscci
        rxbitcnt := s.rxbitcnt - 1 } ∨
     s.rxcap = false ∧ s.rxbitcnt = 1 ∧ t = { s with
        rxifg := false
        rxccr := advance s.rxccr (bitTicks s)
        rxshift := shiftIn s.rxshift s.rxscci
        rxbitcnt := 0
        rxbuf := shiftIn s.rxshift s.rxscci
        rxfull := true
        wake := true
        rxcap := true }) := by
  have hsub : ∀ n : BitVec 4, n - 1 = 0 ↔ n = 1 := by decide
  unfold execRxIsr at h
  split at h
  · next he =>
    rw [rxEnabled_iff] at he
    refine ⟨he.1, he.2, ?_⟩
    by_cases hc : s.rxcap = true
    · exact .inl ⟨hc, (Host.Outcome.next.inj ((if_pos hc).symm.trans h)).symm⟩
    · replace h := (if_neg hc).symm.trans h
      by_cases hb : s.rxbitcnt = 1
      · refine .inr (.inr ⟨by simpa using hc, hb, ?_⟩)
        rw [← (Host.Outcome.next.inj ((if_pos ((hsub _).2 hb)).symm.trans h)), ← (hsub _).2 hb]
        rfl
      · exact .inr (.inl ⟨by simpa using hc, hb,
          (Host.Outcome.next.inj ((if_neg (mt (hsub _).1 hb)).symm.trans h)).symm⟩)
  · cases h

theorem execTorqueIsr_next (h : execTorqueIsr s = .next t) :
    s.tqpend = true ∧ (∀ c ∈ s.ctx, c.who ≠ .TQ) ∧
    ((countEdge (enterHandler .torque s)).pulsecount ≠ 13 ∧ t = countEdge (enterHandler .torque s) ∨
     (countEdge (enterHandler .torque s)).pulsecount = 13 ∧
      ((∃ f, buildFrame (rotPayload s.params (rotationSample (countEdge (enterHandler .torque s)))) = some f ∧
          t = sendFrame .TQ f (recordRotation (countEdge (enterHandler .torque s)))) ∨
        buildFrame (rotPayload s.params (rotationSample (countEdge (enterHandler .torque s)))) = none ∧
          t = refuse .badPayloadLength s)) := by
  unfold execTorqueIsr at h
  split at h
  · next he =>
    rw [torqueEnabled_iff] at he
    refine ⟨he.1, he.2, ?_⟩
    by_cases hp : (countEdge (enterHandler .torque s)).pulsecount = 13
    · replace h := (if_pos hp).symm.trans h
      refine .inr ⟨hp, ?_⟩
      split at h
      · next f hf => exact .inl ⟨f, hf, by simpa using h.symm⟩
      · next hf => exact .inr ⟨hf, by simpa using h.symm⟩
    · exact .inl ⟨hp, (Host.Outcome.next.inj ((if_neg hp).symm.trans h)).symm⟩
  · cases h

theorem execCalIsr_next (h : execCalIsr s = .next t) :
    s.calpend = true ∧ s.calie = true ∧ (∀ c ∈ s.ctx, c.who ≠ .CAL) ∧
    ((∃ f, buildFrame (calPayload s.params s.torqueticket) = some f ∧
        t = sendFrame .CAL f { s with calpend := false, indicator := !s.indicator, caloffset := s.torqueticket }) ∨
      buildFrame (calPayload s.params s.torqueticket) = none ∧ t = refuse .badPayloadLength s) := by
  unfold execCalIsr at h
  split at h
  · next he =>
    rw [calibrationEnabled_iff] at he
    refine ⟨he.1, he.2.1, he.2.2, ?_⟩
    dsimp only [enterHandler] at h
    split at h
    · next f hf => exact .inl ⟨f, hf, by simpa using h.symm⟩
    · next hf => exact .inr ⟨hf, by simpa using h.symm⟩
  · cases h

theorem execCtxSend_next (h : execCtxSend s = .next t) :
    ∃ who b later below, s.ctx = ⟨who, b :: later⟩ :: below ∧ s.txie = false ∧
      t = observe (.sent b) { armTransmitter b s with ctx := nextByte who later below } := by
  unfold execCtxSend at h
  split at h
  · cases h
  · next c below hc =>
    split at h
    · cases h
    · next hb =>
      obtain ⟨who, bytes⟩ := c
      cases bytes with
      | nil => cases h
      | cons b later => exact ⟨who, b, later, below, hc, by simpa using hb, by simpa using h.symm⟩

theorem execElapsed_next {x y : Word} (h : execElapsed x y s = .next t) :
    t = observe (.elapsed (elapsedTicks x y)) s := by
  simpa [execElapsed] using h.symm

theorem execTxPack_next {b : Byte} (h : execTxPack b s = .next t) : t = observe (.packed (packCharacter b)) s := by
  simpa [execTxPack] using h.symm

theorem execChecksum_next {xs : List Byte} (h : execChecksum xs s = .next t) :
    xs.length ≤ 256 ∧ t = observe (.checksum (xorBytes xs)) s ∨ 256 < xs.length ∧ t = refuse .badCount s := by
  unfold execChecksum checksumLengthOk at h
  split at h
  · next hl => exact .inl ⟨by simpa using hl, by simpa using h.symm⟩
  · next hl => exact .inr ⟨by simpa using hl, by simpa using h.symm⟩

theorem execFrameBuild_next {p : List Byte} (h : execFrameBuild p s = .next t) :
    (∃ f, buildFrame p = some f ∧ t = observe (.built f) s) ∨
      buildFrame p = none ∧ t = refuse .badPayloadLength s := by
  unfold execFrameBuild at h
  split at h
  · next f hf => exact .inl ⟨f, hf, by simpa using h.symm⟩
  · next hf => exact .inr ⟨hf, by simpa using h.symm⟩

theorem execClassify_next {gap : Word} (h : execClassify gap s = .next t) :
    t = observe (.classified (classifyGap s.params gap)) s := by
  simpa [execClassify] using h.symm

theorem exec_never_refuses (i : Instr) (s : State) (r : Refusal) : exec i s ≠ .refused r := by
  cases i <;> simp only [exec, execTick, execRxLine, execRxRead, execTorqueEdge, execCalExpiry, execModeEdge, execFgSend,
    execFgFrame, execReset, execTxIsr, execRxIsr, execTorqueIsr, execCalIsr, execCtxSend, execElapsed, execTxPack,
    execChecksum, execFrameBuild, execClassify, ne_eq] <;> repeat' split <;> simp
  all_goals (repeat' split) <;> simp

end Sys2Proof.Machine
end

