-- ==== Sys2Proof/Laws/PerInstr.lean ====
section
/-! SUPPORT. The family EncodeShape, one lemma for each operation: its descriptor starts with its own opcode and is the
5 bytes of the word and its payload (30_encoding.md R88, R90, R94). -/

namespace Sys2Proof.Laws.EncodeShape

open Sys2Proof Sys2Proof.Machine

/-- The descriptor of an operation: the opcode of its row first, then 4 operand bytes, then the payload. -/
def Statement (i : Instr) : Prop :=
  (encode i).head? = some i.op.code ∧ (encode i).length = 5 + (payloadOf i).length ∧ Op.ofByte i.op.code = some i.op

theorem tick : Statement .tick :=
  ⟨rfl, by simp [encode, operandBytes]; omega, by simp only [Instr.op]; decide⟩

theorem rxLine (level : Bool) : Statement (.rxLine level) :=
  ⟨rfl, by simp [encode, operandBytes]; omega, by simp only [Instr.op]; decide⟩

theorem rxRead : Statement .rxRead :=
  ⟨rfl, by simp [encode, operandBytes]; omega, by simp only [Instr.op]; decide⟩

theorem torqueEdge : Statement .torqueEdge :=
  ⟨rfl, by simp [encode, operandBytes]; omega, by simp only [Instr.op]; decide⟩

theorem calExpiry : Statement .calExpiry :=
  ⟨rfl, by simp [encode, operandBytes]; omega, by simp only [Instr.op]; decide⟩

theorem modeEdge : Statement .modeEdge :=
  ⟨rfl, by simp [encode, operandBytes]; omega, by simp only [Instr.op]; decide⟩

theorem fgSend (b : Byte) : Statement (.fgSend b) :=
  ⟨rfl, by simp [encode, operandBytes]; omega, by simp only [Instr.op]; decide⟩

theorem fgFrame (payload : List Byte) : Statement (.fgFrame payload) :=
  ⟨rfl, by simp [encode, operandBytes]; omega, by simp only [Instr.op]; decide⟩

theorem reset : Statement .reset :=
  ⟨rfl, by simp [encode, operandBytes]; omega, by simp only [Instr.op]; decide⟩

theorem txIsr : Statement .txIsr :=
  ⟨rfl, by simp [encode, operandBytes]; omega, by simp only [Instr.op]; decide⟩

theorem rxIsr : Statement .rxIsr :=
  ⟨rfl, by simp [encode, operandBytes]; omega, by simp only [Instr.op]; decide⟩

theorem torqueIsr : Statement .torqueIsr :=
  ⟨rfl, by simp [encode, operandBytes]; omega, by simp only [Instr.op]; decide⟩

theorem calIsr : Statement .calIsr :=
  ⟨rfl, by simp [encode, operandBytes]; omega, by simp only [Instr.op]; decide⟩

theorem ctxSend : Statement .ctxSend :=
  ⟨rfl, by simp [encode, operandBytes]; omega, by simp only [Instr.op]; decide⟩

theorem elapsed (finish : Word) (start : Word) : Statement (.elapsed finish start) :=
  ⟨rfl, by simp [encode, operandBytes]; omega, by simp only [Instr.op]; decide⟩

theorem txPack (b : Byte) : Statement (.txPack b) :=
  ⟨rfl, by simp [encode, operandBytes]; omega, by simp only [Instr.op]; decide⟩

theorem checksum (xs : List Byte) : Statement (.checksum xs) :=
  ⟨rfl, by simp [encode, operandBytes]; omega, by simp only [Instr.op]; decide⟩

theorem frameBuild (payload : List Byte) : Statement (.frameBuild payload) :=
  ⟨rfl, by simp [encode, operandBytes]; omega, by simp only [Instr.op]; decide⟩

theorem classify (gap : Word) : Statement (.classify gap) :=
  ⟨rfl, by simp [encode, operandBytes]; omega, by simp only [Instr.op]; decide⟩

end Sys2Proof.Laws.EncodeShape
end

