-- ==== Sys2Proof/Laws/Step.lean ====
section
/-! SUPPORT. What a step can do, said once. -/

namespace Sys2Proof.Machine

/-- A step that answers a next state ran the operation decoded at the front of the script, or refused. -/
theorem step_next {s t : State} (h : step s = .next t) :
    (∃ i rest, decode s.script = .instr i rest ∧ admittedPeriod s.params.bitPeriod = true ∧
        exec i { s with script := rest } = .next t) ∨
      (∃ reason rest, t = refuse reason { s with script := rest }) := by
  unfold step at h
  split at h
  · split at h
    · exact .inl ⟨_, _, ‹_›, ‹_›, h⟩
    · exact .inr ⟨_, _, by simpa using h.symm⟩
  · exact .inr ⟨_, _, by simpa using h.symm⟩
  · cases h
  · cases h

theorem step_instr {s : State} {i : Instr} {rest : List Byte} (hd : decode s.script = .instr i rest)
    (ha : admittedPeriod s.params.bitPeriod = true) : step s = exec i { s with script := rest } := by
  simp [step, hd, ha]

theorem step_refused {s : State} {r : Reason} {rest : List Byte} (hd : decode s.script = .refused r rest) :
    step s = .next (refuse r { s with script := rest }) := by
  simp [step, hd]

theorem step_badParameter {s : State} {i : Instr} {rest : List Byte} (hd : decode s.script = .instr i rest)
    (ha : admittedPeriod s.params.bitPeriod = false) :
    step s = .next (refuse .badParameter { s with script := rest }) := by
  simp [step, hd, ha]

theorem step_never_refuses (s : State) (r : Refusal) : step s ≠ .refused r := by
  unfold step
  split
  · split
    · exact exec_never_refuses _ _ _
    · simp
  all_goals simp

/-- A property that every operation keeps, and that depends neither on the script nor on what a refusal writes, is kept
by every step. -/
theorem step_keeps {P : State → Prop} (hexec : ∀ i s t, P s → exec i s = .next t → P t)
    (hscript : ∀ s rest, P s → P { s with script := rest }) (hrefuse : ∀ r s, P s → P (refuse r s))
    {s t : State} (hs : P s) (h : step s = .next t) : P t := by
  obtain ⟨i, rest, -, -, h⟩ | ⟨r, rest, rfl⟩ := step_next h
  · exact hexec i _ t (hscript s rest hs) h
  · exact hrefuse r _ (hscript s rest hs)

end Sys2Proof.Machine
end

