-- ==== Sys2Proof/Laws/Safety.lean ====
section
/-! SUPPORT. What the proofs about runs and invariants cite: the operations outside each channel leave its registers
alone, and the predicates of Safety.lean depend only on the fields they name. -/

namespace Sys2Proof.Machine

/-- Only TICK, TX_ISR, CTX_SEND and RESET touch the transmit channel and the counter. -/
theorem exec_transmitter_frame {i : Instr} {s t : State} (h : exec i s = .next t) (h1 : i ≠ .tick)
    (h2 : i ≠ .txIsr) (h3 : i ≠ .ctxSend) (h4 : i ≠ .reset) :
    t.params = s.params ∧ t.cnt = s.cnt ∧ t.txccr = s.txccr ∧ t.txie = s.txie ∧ t.txifg = s.txifg ∧
    t.txoutmod = s.txoutmod ∧ t.txout = s.txout ∧ t.txshift = s.txshift ∧ t.txbitcnt = s.txbitcnt := by
  cases i <;> simp only [exec] at h
  case tick => exact absurd rfl h1
  case rxLine v => rw [execRxLine_eq] at h; cases h; simp
  case rxRead => obtain ⟨-, rfl⟩ := execRxRead_next h; simp
  case torqueEdge => obtain rfl := execTorqueEdge_next h; simp
  case calExpiry => obtain rfl := execCalExpiry_next h; simp
  case modeEdge => obtain rfl := execModeEdge_next h; simp
  case fgSend b => obtain ⟨-, rfl⟩ := execFgSend_next h; simp
  case fgFrame p => obtain ⟨-, ⟨f, -, rfl⟩ | ⟨-, rfl⟩⟩ := execFgFrame_next h <;> simp
  case reset => exact absurd rfl h4
  case txIsr => exact absurd rfl h2
  case rxIsr => obtain ⟨-, -, ⟨-, rfl⟩ | ⟨-, -, rfl⟩ | ⟨-, -, rfl⟩⟩ := execRxIsr_next h <;> simp
  case torqueIsr =>
    obtain ⟨-, -, ⟨-, rfl⟩ | ⟨-, ⟨f, -, rfl⟩ | ⟨-, rfl⟩⟩⟩ := execTorqueIsr_next h <;> simp 
  case calIsr => obtain ⟨-, -, -, ⟨f, -, rfl⟩ | ⟨-, rfl⟩⟩ := execCalIsr_next h <;> simp
  case ctxSend => exact absurd rfl h3
  case elapsed x y => obtain rfl := execElapsed_next h; simp
  case txPack b => obtain rfl := execTxPack_next h; simp
  case checksum xs => obtain ⟨-, rfl⟩ | ⟨-, rfl⟩ := execChecksum_next h <;> simp
  case frameBuild p => obtain ⟨f, -, rfl⟩ | ⟨-, rfl⟩ := execFrameBuild_next h <;> simp
  case classify g => obtain rfl := execClassify_next h; simp

/-- Only TICK, RX_LINE, RX_ISR, RX_READ and RESET touch the receive channel. -/
theorem exec_receiver_frame {i : Instr} {s t : State} (h : exec i s = .next t) (h1 : i ≠ .tick) (h2 : i ≠ .rxIsr)
    (h3 : ∀ v, i ≠ .rxLine v) (h4 : i ≠ .reset) (h5 : i ≠ .rxRead) :
    t.rxccr = s.rxccr ∧ t.rxifg = s.rxifg ∧ t.rxcap = s.rxcap ∧ t.rxscci = s.rxscci ∧ t.rxin = s.rxin ∧
    t.rxshift = s.rxshift ∧ t.rxbitcnt = s.rxbitcnt ∧ t.rxbuf = s.rxbuf ∧ t.rxfull = s.rxfull ∧
    t.params = s.params := by
  cases i <;> simp only [exec] at h
  case tick => exact absurd rfl h1
  case rxLine v => exact absurd rfl (h3 v)
  case rxRead => exact absurd rfl h5
  case torqueEdge => obtain rfl := execTorqueEdge_next h; simp
  case calExpiry => obtain rfl := execCalExpiry_next h; simp
  case modeEdge => obtain rfl := execModeEdge_next h; simp
  case fgSend b => obtain ⟨-, rfl⟩ := execFgSend_next h; simp
  case fgFrame p => obtain ⟨-, ⟨f, -, rfl⟩ | ⟨-, rfl⟩⟩ := execFgFrame_next h <;> simp
  case reset => exact absurd rfl h4
  case txIsr => obtain ⟨-, -, ⟨-, rfl⟩ | ⟨-, rfl⟩⟩ := execTxIsr_next h <;> simp
  case rxIsr => exact absurd rfl h2
  case torqueIsr =>
    obtain ⟨-, -, ⟨-, rfl⟩ | ⟨-, ⟨f, -, rfl⟩ | ⟨-, rfl⟩⟩⟩ := execTorqueIsr_next h <;> simp
  case calIsr => obtain ⟨-, -, -, ⟨f, -, rfl⟩ | ⟨-, rfl⟩⟩ := execCalIsr_next h <;> simp
  case ctxSend => obtain ⟨w, b, l, bl, -, -, rfl⟩ := execCtxSend_next h; simp [armTransmitter]
  case elapsed x y => obtain rfl := execElapsed_next h; simp
  case txPack b => obtain rfl := execTxPack_next h; simp
  case checksum xs => obtain ⟨-, rfl⟩ | ⟨-, rfl⟩ := execChecksum_next h <;> simp
  case frameBuild p => obtain ⟨f, -, rfl⟩ | ⟨-, rfl⟩ := execFrameBuild_next h <;> simp
  case classify g => obtain rfl := execClassify_next h; simp

/-- The invariants depend only on these fields. -/
theorem StateOk.same {s t : State} (h : StateOk s) (e1 : t.txbitcnt = s.txbitcnt) (e2 : t.rxbitcnt = s.rxbitcnt)
    (e3 : t.rxcap = s.rxcap)
  (e4 : t.rxie = s.rxie) (e5 : t.calie = s.calie) (e6 : t.mode = s.mode) (e7 : t.calpend = s.calpend)
    (e8 : t.wake = s.wake) (e9 : t.rxfull = s.rxfull)
  (e10 : ContextsOk t.ctx) : StateOk t := by
  obtain ⟨h1,h2,h3,h4,h5,h6,h7,h8⟩ := h
  constructor <;> (try simp only [e1,e2,e3,e4,e5,e6,e7,e8,e9]) <;> assumption

theorem LineOk.same {s t : State} (h : LineOk s) (e1 : t.txbitcnt = s.txbitcnt) (e2 : t.txie = s.txie)
    (e3 : t.txout = s.txout)
  (e4 : t.txoutmod = s.txoutmod) (e5 : t.txifg = s.txifg) (e6 : t.txshift = s.txshift) : LineOk t := by
  obtain ⟨h1,h2,h3,h4⟩ := h
  constructor <;> (try simp only [e1,e2,e3,e4,e5,e6]) <;> assumption

/-- A push keeps the invariants of CTX when the source is not there yet and a foreground context comes only onto an
empty stack. -/
theorem contextsOk_push {w bs ctx} (h : ContextsOk ctx) (hb : bs ≠ []) (hw : ∀ c ∈ ctx, c.who ≠ w)
    (hfg : w ≠ .FG ∨ ctx = []) :
    ContextsOk (⟨w, bs⟩ :: ctx) := by
  refine ⟨?_, ?_, ?_⟩
  · intro c hc; rcases List.mem_cons.1 hc with rfl | hc
    · exact hb
    · exact h.nonempty c hc
  · simp only [List.map_cons, List.nodup_cons]; exact ⟨by simpa using hw, h.distinct⟩
  · intro c hc
    cases ctx with
    | nil => simp at hc
    | cons d ds =>
      simp only [List.dropLast_cons_cons] at hc
      rcases List.mem_cons.1 hc with rfl | hc
      · rcases hfg with h | h
        · exact h
        · cases h
      · exact h.foregroundAtBottom c hc

/-- Taking the top context's first byte keeps the invariants of CTX. -/
theorem contextsOk_nextByte {w b later below} (h : ContextsOk (⟨w, b :: later⟩ :: below)) : ContextsOk (nextByte w
    later below) := by
  rw [nextByte_eq]
  have hb : ContextsOk below := ⟨fun c hc => h.nonempty c (List.mem_cons_of_mem _ hc), (List.nodup_cons.1
    h.distinct).2, by
    intro c hc
    refine h.foregroundAtBottom c ?_
    cases below with
    | nil => simp at hc
    | cons d ds => simp only [List.dropLast_cons_cons]; exact List.mem_cons_of_mem _ hc⟩
  split
  · exact hb
  · next hl =>
    refine contextsOk_push hb hl ?_ ?_
    · have := (List.nodup_cons.1 h.distinct).1; intro c hc e; exact this (by simpa using ⟨c, hc, e⟩)
    · cases below with
      | nil => exact .inr rfl
      | cons d ds => exact .inl (h.foregroundAtBottom ⟨w, b :: later⟩ (by simp))

/-- A frame has bytes. -/
theorem buildFrame_ne {p f} (h : buildFrame p = some f) : f ≠ [] := by
  obtain ⟨-, rfl⟩ := (buildFrame_eq_some_iff p f).1 h; simp

/-! ### Runs -/

theorem runOps_cons {i : Instr} {ops : List Instr} {s u : State} (h : exec i s = .next u) :
    runOps (i :: ops) s = runOps ops u := by
  simp [runOps, h]

/-- A run of one operation and more that answers a next state passes through the next state of the first. -/
theorem runOps_cons_next {i : Instr} {ops : List Instr} {s t : State} (h : runOps (i :: ops) s = .next t) :
    ∃ u, exec i s = .next u ∧ runOps ops u = .next t := by
  unfold runOps at h
  split at h
  · next u hu => exact ⟨u, hu, h⟩
  · cases h
  · cases h

theorem runOps_append {xs ys : List Instr} {s u : State} (h : runOps xs s = .next u) :
    runOps (xs ++ ys) s = runOps ys u := by
  induction xs generalizing s with
  | nil => cases h; rfl
  | cons i xs ih =>
    obtain ⟨v, hv, h⟩ := runOps_cons_next h
    rw [List.cons_append, runOps_cons hv, ih h]

theorem everyStep_cons {p : Instr → State → Bool} {i : Instr} {ops : List Instr} {s u : State}
    (hu : exec i s = .next u) : everyStep p (i :: ops) s = (p i s && everyStep p ops u) := by
  simp [everyStep, hu]

end Sys2Proof.Machine
end

