-- ==== Sys2Proof/Tests/Slice0.lean ====
section
/-! SUPPORT. Tests of the model on the examples and vectors of spec/95_test_vectors.md, and for every obligation with
hypotheses a concrete state and operands that meet them. Every expected value is the spec's, or computed by hand from its
rules; the comment of a test names the vector. -/

namespace Sys2Proof.Tests

open Sys2Proof.Machine

abbrev Result := Host.Outcome State Fault Refusal

/-! ### The instance of the vectors -/

/-- The fixtures of 95_test_vectors.md: T as given, MASK_TICKS = 100, F_ROT and F_CAL. They are not source layouts. -/
def fixtures (period : BitPeriod) : Params where
  bitPeriod := period
  maskTicks := 100
  initialMode := .continuousCapture
  rotLayout := some [.literal 0x4E, .literal 0x00, .rotationEventCounter, .torqueTicks, .timeStampHalfUnits]
  calLayout := some [.literal 0x4E, .literal 0x01, .offset]

/-- From reset, T = 10. -/
def start : State := State.initial (fixtures (bitPeriodOfTicks 10))

/-- The same with the shortest admitted bit period, T = 2. -/
def startShort : State := State.initial (fixtures (bitPeriodOfTicks 2))

/-- The same with a payload builder whose result cannot be framed. -/
def startUnframed : State :=
  State.initial { fixtures (bitPeriodOfTicks 10) with rotLayout := some [], calLayout := some [] }

def nextOf : Result → Option State
  | .next t => some t
  | .fault _ => none
  | .refused _ => none

def faultOf : Result → Option Fault
  | .next _ => none
  | .fault r => some r
  | .refused _ => none

theorem exists_next {o : Result} (h : (nextOf o).isSome = true) : ∃ t, o = .next t := by
  cases o with
  | next t => exact ⟨t, rfl⟩
  | fault r => cases h
  | refused r => cases h

theorem exists_next_with {o : Result} {p : State → Bool} (h : (nextOf o).any p = true) :
    ∃ t, o = .next t ∧ p t = true := by
  cases o with
  | next t => exact ⟨t, rfl, h⟩
  | fault r => cases h
  | refused r => cases h

theorem payloadLengthOk_replicate (n : Nat) (b : Byte) :
    payloadLengthOk (List.replicate n b) = (decide (1 ≤ n) && decide (n ≤ 256)) := by
  rw [payloadLengthOk, List.length_replicate]

theorem checksumLengthOk_replicate (n : Nat) (b : Byte) :
    checksumLengthOk (List.replicate n b) = decide (n ≤ 256) := by
  rw [checksumLengthOk, List.length_replicate]

/-! ### WellFormed refuses an ill-formed term of each kind -/

theorem test_wellFormed_fgFrame_empty : (Instr.fgFrame []).wellFormed = false := by decide
theorem test_wellFormed_frameBuild_empty : (Instr.frameBuild []).wellFormed = false := by decide
theorem test_wellFormed_fgFrame_257 : (Instr.fgFrame (List.replicate 257 0)).wellFormed = false :=
  payloadLengthOk_replicate 257 0
theorem test_wellFormed_frameBuild_257 : (Instr.frameBuild (List.replicate 257 0)).wellFormed = false :=
  payloadLengthOk_replicate 257 0
theorem test_wellFormed_checksum_257 : (Instr.checksum (List.replicate 257 0)).wellFormed = false :=
  checksumLengthOk_replicate 257 0
theorem test_wellFormed_at_the_bounds : (Instr.fgFrame (List.replicate 256 0)).wellFormed = true ∧
    (Instr.frameBuild [0]).wellFormed = true ∧ (Instr.checksum []).wellFormed = true :=
  ⟨payloadLengthOk_replicate 256 0, by decide, by decide⟩

/-! ### Decoding: the word of each row, written out from R88 and R90 -/

theorem test_decode_tick : decode [0x01, 0, 0, 0, 0] = .instr .tick [] := by decide
theorem test_decode_rxLine : decode [0x10, 0, 0, 0, 1] = .instr (.rxLine true) [] ∧
    decode [0x10, 0, 0, 0, 0] = .instr (.rxLine false) [] := by decide
theorem test_decode_rxRead : decode [0x11, 0, 0, 0, 0] = .instr .rxRead [] := by decide
theorem test_decode_torqueEdge : decode [0x20, 0, 0, 0, 0] = .instr .torqueEdge [] := by decide
theorem test_decode_calExpiry : decode [0x21, 0, 0, 0, 0] = .instr .calExpiry [] := by decide
theorem test_decode_modeEdge : decode [0x22, 0, 0, 0, 0] = .instr .modeEdge [] := by decide
theorem test_decode_fgSend : decode [0x30, 0, 0, 0, 0x55] = .instr (.fgSend 0x55) [] := by decide
theorem test_decode_fgFrame : decode [0x31, 0, 0, 0, 2, 0x42, 0x10, 0x01] = .instr (.fgFrame [0x42, 0x10]) [0x01] := by
  decide
theorem test_decode_reset : decode [0x3F, 0, 0, 0, 0] = .instr .reset [] := by decide
theorem test_decode_txIsr : decode [0x40, 0, 0, 0, 0] = .instr .txIsr [] := by decide
theorem test_decode_rxIsr : decode [0x41, 0, 0, 0, 0] = .instr .rxIsr [] := by decide
theorem test_decode_torqueIsr : decode [0x42, 0, 0, 0, 0] = .instr .torqueIsr [] := by decide
theorem test_decode_calIsr : decode [0x43, 0, 0, 0, 0] = .instr .calIsr [] := by decide
theorem test_decode_ctxSend : decode [0x44, 0, 0, 0, 0] = .instr .ctxSend [] := by decide
theorem test_decode_elapsed : decode [0x80, 0x00, 0x10, 0xFF, 0xF0] = .instr (.elapsed 0x0010 0xFFF0) [] := by decide
theorem test_decode_txPack : decode [0x81, 0, 0, 0, 0xA4] = .instr (.txPack 0xA4) [] := by decide
theorem test_decode_checksum : decode [0x82, 0, 0, 0, 2, 0xFF, 0x0F] = .instr (.checksum [0xFF, 0x0F]) [] := by decide
theorem test_decode_frameBuild : decode [0x83, 0, 0, 0, 1, 0x4A] = .instr (.frameBuild [0x4A]) [] := by decide
theorem test_decode_classify : decode [0x84, 0, 0, 0x01, 0x64] = .instr (.classify 0x0164) [] := by decide

/-- V-REF. -/
theorem test_refused_opcodes : decode [0x00, 0, 0, 0, 0] = .refused .illegalOpcode [] ∧
    decode [0xFF, 0, 0, 0, 0] = .refused .illegalOpcode [] := by decide
theorem test_refused_reserved_bits : decode [0x01, 0, 0, 0, 1] = .refused .reservedOperandBits [] ∧
    decode [0x30, 0, 0, 1, 0x55] = .refused .reservedOperandBits [] ∧
    decode [0x10, 0, 0, 0, 2] = .refused .reservedOperandBits [] ∧
    decode [0x84, 0, 1, 0, 0] = .refused .reservedOperandBits [] := by decide
theorem test_refused_counts : decode [0x83, 0, 0, 0, 0] = .refused .badCount [] ∧
    decode [0x31, 0, 0, 1, 1] = .refused .badCount [] ∧ decode [0x82, 0, 0, 1, 1] = .refused .badCount [] := by decide
/-- V-REF, as a step: REFUSED is set and nothing else of the block changes. -/
theorem test_step_refused : nextOf (step { start with script := [0x01, 0, 0, 0, 1, 0x3F] }) =
    some { start with refused := true, script := [0x3F], outputs := [.refusal .reservedOperandBits] } := by decide
theorem test_reason_codes : [Reason.illegalOpcode, .reservedOperandBits, .badCount, .badPayloadLength,
    .badParameter].map Reason.code = [1, 2, 3, 4, 5] := by decide

/-! ### One operation on a small state -/

/-- V-TX6. -/
theorem test_tick_match_at_the_wrap : nextOf (exec .tick { start with cnt := 0xFFFF, txout := false }) =
    some { start with cnt := 0, txout := true, txifg := true, outputs := [.line 0 true] } := by decide
/-- V-TX11. -/
theorem test_tick_both_channels_match :
    nextOf (exec .tick { start with cnt := 0x22, txccr := 0x23, rxcap := false, rxccr := 0x23, txoutmod := false }) =
    some { start with cnt := 0x23, txccr := 0x23, rxcap := false, rxccr := 0x23, txoutmod := false, txout := false,
                      txifg := true, rxscci := true, rxifg := true, outputs := [.line 0x23 false] } := by decide
/-- V-RX1. -/
theorem test_rxLine_capture : nextOf (exec (.rxLine false) { start with cnt := 0x14 }) =
    some { start with cnt := 0x14, rxin := false, rxccr := 0x14, rxifg := true } := by decide
/-- V-RX3. -/
theorem test_rxLine_compare_mode : nextOf (exec (.rxLine false) { start with cnt := 0x14, rxcap := false }) =
    some { start with cnt := 0x14, rxcap := false, rxin := false } := by decide
/-- V-RX13. -/
theorem test_rxRead : nextOf (exec .rxRead { start with rxbuf := 0xA4, rxfull := true, wake := true }) =
    some { start with rxbuf := 0xA4, outputs := [.received 0xA4 true] } := by decide
/-- V-RX15. -/
theorem test_rxRead_stuck : faultOf (exec .rxRead { start with ctx := [⟨.FG, [1]⟩] }) = some .foregroundBlocked := by
  decide
/-- V-TQ9: the second edge is merged. -/
theorem test_torqueEdge_merges : nextOf (exec .torqueEdge { start with tqpend := true }) =
    some { start with tqpend := true } := by decide
/-- V-MD3. -/
theorem test_calExpiry_disabled : nextOf (exec .calExpiry start) = some start := by decide
/-- V-MD4. -/
theorem test_calExpiry_enabled : nextOf (exec .calExpiry { start with calie := true }) =
    some { start with calie := true, calpend := true } := by decide
/-- V-MD2. -/
theorem test_modeEdge_back :
    nextOf (exec .modeEdge { start with mode := .calibrationCapture, calie := true, calpend := true }) =
    some start := by decide
/-- S7. -/
theorem test_modeEdge_no_flush : nextOf (exec .modeEdge { start with pulsecount := 7, torqueticket := 2 }) =
    some { start with pulsecount := 7, torqueticket := 2, mode := .calibrationCapture, calie := true } := by decide
/-- The example of R123. -/
theorem test_fgSend : nextOf (exec (.fgSend 0x55) start) = some { start with ctx := [⟨.FG, [0x55]⟩] } := by decide
/-- V-FR1. -/
theorem test_fgFrame : nextOf (exec (.fgFrame [0x42, 0x00, 0x10, 0x00]) start) =
    some { start with ctx := [⟨.FG, [0xA4, 0x03, 0x42, 0x00, 0x10, 0x00, 0xF5]⟩]
                      outputs := [.frame [0xA4, 0x03, 0x42, 0x00, 0x10, 0x00, 0xF5]] } := by decide
/-- V-FR2. -/
theorem test_fgFrame_stuck : faultOf (exec (.fgFrame [1]) { start with ctx := [⟨.TQ, [1]⟩] }) =
    some .foregroundBlocked := by decide
/-- V-RS1 and V-RS2. -/
theorem test_reset : nextOf (exec .reset { start with
      txie := true, txout := false, ctx := [⟨.TQ, [1, 2]⟩], pulsecount := 9, mode := .calibrationCapture,
      rxbitcnt := 3, rxcap := false, refused := true }) =
    some { start with refused := true } := by decide
/-- V-TX8. -/
theorem test_txIsr_bit : nextOf (exec .txIsr { start with
      txshift := 0x2AA, txbitcnt := 10, txccr := 0x0A, txifg := true, txie := true }) =
    some { start with txshift := 0x155, txbitcnt := 9, txccr := 0x14, txie := true, txoutmod := false } := by decide
/-- V-TX9. -/
theorem test_txIsr_end : nextOf (exec .txIsr { start with txccr := 0x6E, txifg := true, txie := true }) =
    some { start with txccr := 0x78 } := by decide
/-- V-RX6. -/
theorem test_rxIsr_capture : nextOf (exec .rxIsr { start with rxifg := true, rxccr := 0x14, rxbitcnt := 0 }) =
    some { start with rxccr := 0x23, rxcap := false } := by decide
/-- V-RX8. -/
theorem test_rxIsr_eighth_sample : nextOf (exec .rxIsr { start with
      rxifg := true, rxcap := false, rxshift := 0x48, rxscci := true, rxbitcnt := 1, rxccr := 0x69 }) =
    some { start with rxshift := 0xA4, rxscci := true, rxbitcnt := 0, rxbuf := 0xA4, rxfull := true, wake := true,
                      rxccr := 0x73 } := by decide
/-- The example of R201 and the framed F_ROT({1, 1, 550}) of V-FR. -/
theorem test_torqueIsr_emits : nextOf (exec .torqueIsr { start with
      tqpend := true, pulsecount := 12, torqueticket := 1, lastedge := 1050, cnt := 1100 }) =
    some { start with
      pulsecount := 13, rotcnt := 1, lastedge := 1100, lasttx := 1100, cnt := 1100
      ctx := [⟨.TQ, [0xA4, 0x06, 0x4E, 0x00, 0x01, 0x01, 0x00, 0x26, 0x02, 0xC8]⟩]
      outputs := [.frame [0xA4, 0x06, 0x4E, 0x00, 0x01, 0x01, 0x00, 0x26, 0x02, 0xC8]] } := by decide
/-- V-TQ12. -/
theorem test_torqueIsr_refused : nextOf (exec .torqueIsr { startUnframed with tqpend := true, pulsecount := 12 }) =
    some { startUnframed with
      tqpend := true, pulsecount := 12, refused := true, outputs := [.refusal .badPayloadLength] } := by decide
/-- V-MD5. -/
theorem test_calIsr : nextOf (exec .calIsr { start with
      mode := .calibrationCapture, calpend := true, calie := true, torqueticket := 2 }) =
    some { start with
      mode := .calibrationCapture, calie := true, torqueticket := 2, indicator := true, caloffset := 2
      ctx := [⟨.CAL, [0xA4, 0x03, 0x4E, 0x01, 0x02, 0x00, 0xEA]⟩]
      outputs := [.frame [0xA4, 0x03, 0x4E, 0x01, 0x02, 0x00, 0xEA]] } := by decide
/-- V-MD6. -/
theorem test_calIsr_stuck : faultOf (exec .calIsr { start with
      calpend := true, calie := true, ctx := [⟨.CAL, [1]⟩] }) = some .calIsrNotEnabled := by decide
/-- V-TX2. -/
theorem test_ctxSend_wraps : (nextOf (exec .ctxSend { State.initial (fixtures (bitPeriodOfTicks 208)) with
      cnt := 0xFF80, ctx := [⟨.FG, [0x55]⟩] })).map (fun t => (t.txccr, t.ctx)) = some (0x0050, []) := by decide
/-- V-TX3. -/
theorem test_ctxSend_next_byte : nextOf (exec .ctxSend { start with ctx := [⟨.FG, [0xA4, 0x00, 0x4A, 0xEE]⟩] }) =
    some { start with
      ctx := [⟨.FG, [0x00, 0x4A, 0xEE]⟩], txshift := 0x348, txccr := 10, txie := true, txbitcnt := 10
      outputs := [.sent 0xA4] } := by decide
/-- V-EL. -/
theorem test_elapsed : nextOf (exec (.elapsed 0x0010 0xFFF0) start) =
    some { start with outputs := [.elapsed 0x0020] } := by decide
theorem test_elapsed_end_below_start : nextOf (exec (.elapsed 0x0003 0x0005) start) =
    some { start with outputs := [.elapsed 0xFFFE] } := by decide
/-- V-TXP. -/
theorem test_txPack : nextOf (exec (.txPack 0xA4) start) = some { start with outputs := [.packed 0x348] } := by decide
/-- V-FR. -/
theorem test_checksum : nextOf (exec (.checksum [0xA4, 0x03, 0x42, 0x00, 0x10, 0x00]) start) =
    some { start with outputs := [.checksum 0xF5] } := by decide
theorem test_frameBuild : nextOf (exec (.frameBuild [0xFF, 0xFF]) start) =
    some { start with outputs := [.built [0xA4, 0x01, 0xFF, 0xFF, 0xA5]] } := by decide
/-- S4. -/
theorem test_classify_at_the_threshold :
    nextOf (exec (.classify 100) start) = some { start with outputs := [.classified .sameGroup] } ∧
    nextOf (exec (.classify 101) start) = some { start with outputs := [.classified .newGroup] } := by decide
/-- R48: the elements of the reset state, by index. -/
theorem test_element : (List.range 18).map (element start) =
    [some 0, some 0, some 0x0C, some 0, some 0x15, some 0, some 0, some 0, some 8, some 0, some 0, some 0, some 0,
      some 0, some 0, some 0, some 0, none] := by decide
/-- The word of TICK placed by the interface is the next operation to run, even from the reset state. -/
theorem test_withFetchWord : (nextOf (step (State.reset.withFetchWord 40 0x0100000000))).map (·.cnt) = some 1 ∧
    decodeTableWord 40 0x3100000002 = some (.fgFrame [0, 0]) := by decide

/-! ### Witnesses: a concrete state and operands for the hypotheses of each obligation -/

theorem witness_OnlyTickAndResetWriteTheCounter :
    (∃ t, exec .torqueEdge start = .next t) ∧ Instr.torqueEdge ≠ .tick ∧ Instr.torqueEdge ≠ .reset :=
  ⟨⟨_, rfl⟩, by decide, by decide⟩

theorem witness_MatchComesWhenTheCounterReachesTheRegister :
    65536 ≤ 65536 ∧ start.txifg = false ∧ start.txccr = start.cnt := by decide

/-- Each clause of TICK: a match, none, an RX match, none, a change of the line, none. -/
theorem witness_TickCountsAndMatches :
    (nextOf (exec .tick { start with cnt := 0xFFFF, txout := false, rxcap := false })).any
      (fun t => t.cnt == start.txccr && t.cnt == start.rxccr && t.txout != false) = true ∧
    (nextOf (exec .tick start)).any (fun t => t.cnt != start.txccr && t.txout == start.txout) = true := by decide

theorem witness_ElapsedEvaluatesItsFormula :
    (0xFFFF#16).toNat ≤ (0xFFFF#16).toNat ∧ (0x0000#16).toNat < (0xFFFF#16).toNat := by decide

theorem witness_ElapsedMeasuresModuloTheCounterRange : (0x0000#16) < (0xFFFF#16) ∧ 0xFFFF ≤ 0xFFFF := by decide

theorem witness_CharacterHasStartDataStopLayout : (7 : Nat) < 8 := by decide

theorem witness_FgSendPushesOneByteContext :
    start.ctx = [] ∧ ({ start with ctx := [⟨.CAL, [1]⟩] } : State).ctx ≠ [] := by decide

/-- A context with one byte left and one with two, on the enabled clause; a busy transmitter; an empty stack. -/
theorem witness_CtxSendSetsUpTheNextByte :
    (({ start with ctx := [⟨.FG, [0xFF]⟩] } : State).ctx = [⟨.FG, [0xFF]⟩] ∧ start.txie = false) ∧
    (({ start with ctx := [⟨.TQ, [0, 1]⟩, ⟨.FG, [2]⟩] } : State).ctx = ⟨.TQ, 0 :: [1]⟩ :: [⟨.FG, [2]⟩]) ∧
    (({ start with ctx := [⟨.FG, [1]⟩], txie := true } : State).ctx ≠ [] ∧ start.ctx = []) := by decide

theorem witness_TxIsrProgramsBitOrDisables :
    let busy : State := { start with txifg := true, txie := true, txbitcnt := 1 }
    let last : State := { start with txifg := true, txie := true, txbitcnt := 0 }
    (busy.txifg = true ∧ busy.txie = true ∧ busy.txbitcnt ≠ 0) ∧
    (last.txifg = true ∧ last.txie = true ∧ last.txbitcnt = 0) ∧
    ¬(({ start with txifg := true } : State).txifg = true ∧ start.txie = true) := by decide

theorem witness_IdleLineStaysAtMark :
    LineOk { start with script := [0x01, 0, 0, 0, 0] } ∧
    ∃ t, step { start with script := [0x01, 0, 0, 0, 0] } = .next t :=
  ⟨by constructor <;> decide, exists_next (by decide)⟩

/-- LineOk while a character is in flight: its last bit is programmed and driven. -/
theorem witness_IdleLineStaysAtMark_busy :
    LineOk { start with txie := true, txifg := true, script := [0x40, 0, 0, 0, 0] } ∧
    ∃ t, step { start with txie := true, txifg := true, script := [0x40, 0, 0, 0, 0] } = .next t :=
  ⟨by constructor <;> decide, exists_next (by decide)⟩

/-- One looped-back character 0x55 (S6) at T = 2, HALF = 1, in the order of program B. -/
def loopbackRun : List Instr :=
  [.tick, .tick, .txIsr, .tick, .tick, .rxLine false, .txIsr, .rxIsr, .tick, .tick, .rxLine true, .txIsr, .tick,
    .rxIsr, .tick, .rxLine false, .txIsr, .tick, .rxIsr, .tick, .rxLine true, .txIsr, .tick, .rxIsr, .tick] ++
  [.rxLine false, .txIsr, .tick, .rxIsr, .tick, .rxLine true, .txIsr, .tick, .rxIsr, .tick, .rxLine false, .txIsr,
    .tick, .rxIsr, .tick, .rxLine true, .txIsr, .tick, .rxIsr, .tick, .rxLine false, .txIsr, .tick, .rxIsr, .tick,
    .rxLine true, .txIsr]

/-- The idle line with one byte to send. -/
def loopbackStart : State := { startShort with ctx := [⟨.FG, [0x55]⟩] }

theorem loopbackRun_next : ∃ t, runOps (.ctxSend :: loopbackRun) loopbackStart = .next t ∧
    (!t.txie && !t.rxifg) = true :=
  exists_next_with (by decide)

theorem witness_CharacterWaveformIsExact :
    admittedPeriod loopbackStart.params.bitPeriod = true ∧ loopbackStart.ctx = ⟨.FG, 0x55 :: []⟩ :: [] ∧
    loopbackStart.txie = false ∧ loopbackStart.txout = true ∧ .reset ∉ loopbackRun ∧ .ctxSend ∉ loopbackRun ∧
    (∃ t, runOps (.ctxSend :: loopbackRun) loopbackStart = .next t ∧ t.txie = false) ∧
    everyStep txInTime (.ctxSend :: loopbackRun) loopbackStart = true := by
  refine ⟨by decide, by decide, by decide, by decide, by decide, by decide, ?_, by decide⟩
  obtain ⟨t, ht, h⟩ := loopbackRun_next
  exact ⟨t, ht, by simp at h; exact h.1⟩

/-- The other clause: right after the send setup the channel is busy. -/
theorem witness_CharacterWaveformIsExact_busy :
    (∃ t, runOps [.ctxSend] loopbackStart = .next t ∧ t.txie = true) ∧
    everyStep txInTime [.ctxSend] loopbackStart = true :=
  ⟨exists_next_with (by decide), by decide⟩

theorem witness_CharacterCompletesWhenServed :
    admittedPeriod loopbackStart.params.bitPeriod = true ∧ loopbackStart.ctx = ⟨.FG, 0x55 :: []⟩ :: [] ∧
    loopbackStart.txie = false := by decide

theorem witness_BlockingSendNeverTimesOut :
    let busy : State := { start with txie := true, ctx := [⟨.FG, [1]⟩] }
    busy.txie = true ∧ .txIsr ∉ [Instr.tick, .torqueEdge] ∧ .reset ∉ [Instr.tick, .torqueEdge] ∧
    ∃ t, runOps [.tick, .torqueEdge] busy = .next t :=
  ⟨by decide, by decide, by decide, exists_next (by decide)⟩

theorem witness_BusyAtLeastElevenBitPeriods :
    admittedPeriod loopbackStart.params.bitPeriod = true ∧ .reset ∉ loopbackRun ∧ .ctxSend ∉ loopbackRun ∧
    ∃ t, runOps (.ctxSend :: loopbackRun) loopbackStart = .next t ∧ t.txie = false := by
  refine ⟨by decide, by decide, by decide, ?_⟩
  obtain ⟨t, ht, h⟩ := loopbackRun_next
  exact ⟨t, ht, by simp at h; exact h.1⟩

theorem witness_RxLineCapturesFallingEdges :
    (start.rxcap = true ∧ start.rxin = true ∧ false = false) ∧
    ¬(start.rxcap = true ∧ start.rxin = true ∧ true = false) := by decide

theorem witness_RxIsrStartsSamplesAndStores :
    let capture : State := { start with rxifg := true }
    let sample : State := { start with rxifg := true, rxcap := false, rxbitcnt := 2 }
    let last : State := { start with rxifg := true, rxcap := false, rxbitcnt := 1 }
    (capture.rxifg = true ∧ capture.rxie = true ∧ capture.rxcap = true) ∧
    (sample.rxifg = true ∧ sample.rxie = true ∧ sample.rxcap = false ∧ sample.rxbitcnt ≠ 1) ∧
    (last.rxifg = true ∧ last.rxie = true ∧ last.rxcap = false ∧ last.rxbitcnt = 1) ∧
    ¬(start.rxifg = true ∧ start.rxie = true) := by decide

theorem witness_RxReadReportsAndClears :
    start.ctx = [] ∧ ({ start with ctx := [⟨.TQ, [1]⟩] } : State).ctx ≠ [] := by decide

theorem witness_EightSamplesReplaceTheShiftRegister :
    [true, false, true, false, true, false, true, true].length = 8 ∧ 7 < 8 := by decide

theorem witness_LoopbackReconstructsEveryByte :
    admittedPeriod loopbackStart.params.bitPeriod = true ∧ loopbackStart.ctx = ⟨.FG, 0x55 :: []⟩ :: [] ∧
    loopbackStart.txie = false ∧ loopbackStart.txout = true ∧ loopbackStart.rxie = true ∧
    loopbackStart.rxcap = true ∧ loopbackStart.rxin = true ∧ loopbackStart.rxifg = false ∧
    .reset ∉ loopbackRun ∧ .ctxSend ∉ loopbackRun ∧ .rxRead ∉ loopbackRun ∧
    (∃ t, runOps (.ctxSend :: loopbackRun) loopbackStart = .next t ∧ t.rxifg = false) ∧
    LatencyOk (.ctxSend :: loopbackRun) loopbackStart ∧
    everyStep wireFollows (.ctxSend :: loopbackRun) loopbackStart = true ∧
    11 * bitTicks loopbackStart ≤ ticksOf loopbackRun := by
  refine ⟨by decide, by decide, by decide, by decide, by decide, by decide, by decide, by decide, by decide, by decide,
    by decide, ?_, by unfold LatencyOk; decide, by decide, by decide⟩
  obtain ⟨t, ht, h⟩ := loopbackRun_next
  exact ⟨t, ht, by simp at h; exact h.2⟩

theorem witness_TransmitterIsIndependentOfTheReceiver :
    let s' : State := { start with rxbuf := 0xFF, rxin := false, rxcap := false }
    s' = { start with rxccr := s'.rxccr, rxie := s'.rxie, rxifg := s'.rxifg, rxcap := s'.rxcap, rxscci := s'.rxscci,
                      rxin := s'.rxin, rxshift := s'.rxshift, rxbitcnt := s'.rxbitcnt, rxbuf := s'.rxbuf,
                      rxfull := s'.rxfull, wake := s'.wake } ∧
    (∃ t, exec .tick start = .next t) ∧ ∃ t, exec .tick s' = .next t :=
  ⟨by decide, exists_next (by decide), exists_next (by decide)⟩

theorem witness_ChecksumEvaluatesTheRunningXor :
    (List.replicate 256 (0xFF : Byte)).length ≤ 256 ∧ ([] : List Byte).length ≤ 256 ∧
    (257#32).toNat < 512 ∧ 256 < (257#32).toNat ∧ (511#32).toNat < 512 := by
  simp only [List.length_replicate]; decide

theorem witness_FrameBuildEvaluatesTheFrame :
    (1 ≤ (List.replicate 256 (0 : Byte)).length ∧ (List.replicate 256 (0 : Byte)).length ≤ 256) ∧
    (1 ≤ [(0xA4 : Byte)].length ∧ [(0xA4 : Byte)].length ≤ 256) ∧
    ¬(1 ≤ ([] : List Byte).length ∧ ([] : List Byte).length ≤ 256) ∧
    ¬(1 ≤ (List.replicate 257 (0 : Byte)).length ∧ (List.replicate 257 (0 : Byte)).length ≤ 256) := by
  simp only [List.length_replicate]; decide

theorem witness_FgFramePushesTheFrame :
    (1 ≤ (List.replicate 256 (0 : Byte)).length ∧ (List.replicate 256 (0 : Byte)).length ≤ 256 ∧ start.ctx = []) ∧
    (1 ≤ [(0 : Byte)].length ∧ [(0 : Byte)].length ≤ 256) ∧
    ({ start with ctx := [⟨.FG, [1]⟩] } : State).ctx ≠ [] ∧
    (start.ctx = [] ∧ ¬(1 ≤ ([] : List Byte).length ∧ ([] : List Byte).length ≤ 256)) ∧
    ((0#32).toNat = 0 ∧ (257#32).toNat < 512 ∧ 256 < (257#32).toNat) := by
  simp only [List.length_replicate]; decide

/-- V-FR. -/
theorem witness_FramesObeyTheFrameLaws : buildFrame [0x4A] = some [0xA4, 0x00, 0x4A, 0xEE] := by decide

theorem witness_FrameBytesAreSentOnceInOrder :
    let s : State := { start with ctx := [⟨.FG, [1, 2]⟩] }
    s.ctx = [⟨.FG, [1, 2]⟩] ∧ [(1 : Byte), 2] ≠ [] ∧ .reset ∉ [Instr.ctxSend, .tick] ∧
    .torqueIsr ∉ [Instr.ctxSend, .tick] ∧ .calIsr ∉ [Instr.ctxSend, .tick] ∧
    (∀ b, .fgSend b ∉ [Instr.ctxSend, .tick]) ∧ (∀ p, .fgFrame p ∉ [Instr.ctxSend, .tick]) ∧
    ∃ t, runOps [.ctxSend, .tick] s = .next t :=
  ⟨rfl, by decide, by decide, by decide, by decide, by simp, by simp, exists_next (by decide)⟩

theorem witness_OnlyTheTopContextMoves :
    let s : State := { start with ctx := [⟨.TQ, [1]⟩, ⟨.FG, [2]⟩] }
    s.ctx = ⟨.TQ, [1]⟩ :: [⟨.FG, [2]⟩] ∧ (∃ t, exec .ctxSend s = .next t) ∧ Instr.ctxSend ≠ .reset ∧
    (∃ t, exec .tick s = .next t) ∧ Instr.tick ≠ .reset ∧ Instr.tick ≠ .ctxSend :=
  ⟨rfl, exists_next (by decide), by decide, exists_next (by decide), by decide, by decide⟩

theorem witness_ClassifyComparesWithTheMask :
    ¬ start.params.maskTicks.toNat < (100#16).toNat ∧ start.params.maskTicks.toNat < (101#16).toNat := by decide

/-- The count after the edge is 1, 13 with a payload that can be framed, and 13 with one that cannot. -/
theorem witness_TorqueIsrCountsAndEmits :
    let s : State := { start with tqpend := true, ctx := [⟨.CAL, [1]⟩] }
    let u : State := { startUnframed with tqpend := true, pulsecount := 12 }
    let v : State := { start with tqpend := true, pulsecount := 12, ctx := [⟨.CAL, [1]⟩] }
    let w : State := { start with tqpend := true, ctx := [⟨.TQ, [1]⟩] }
    (s.tqpend = true ∧ (∀ c ∈ s.ctx, c.who ≠ .TQ) ∧ BitVec.ofNat 16 (min (s.pulsecount.toNat + 1) 0xFFFF) ≠ 13) ∧
    (v.tqpend = true ∧ (∀ c ∈ v.ctx, c.who ≠ .TQ) ∧ BitVec.ofNat 16 (min (v.pulsecount.toNat + 1) 0xFFFF) = 13 ∧
      1 ≤ (rotPayload v.params ⟨1, 0, 0⟩).length ∧ (rotPayload v.params ⟨1, 0, 0⟩).length ≤ 256) ∧
    (u.tqpend = true ∧ (∀ c ∈ u.ctx, c.who ≠ .TQ) ∧ BitVec.ofNat 16 (min (u.pulsecount.toNat + 1) 0xFFFF) = 13 ∧
      ¬(1 ≤ (rotPayload u.params ⟨1, 0, 0⟩).length ∧ (rotPayload u.params ⟨1, 0, 0⟩).length ≤ 256)) ∧
    ¬(w.tqpend = true ∧ ∀ c ∈ w.ctx, c.who ≠ .TQ) := by decide

theorem witness_ThirteenSmallGapsEmitOneSample :
    start.pulsecount = 0 ∧ start.lastedge = start.cnt ∧ start.ctx = [] ∧ (List.replicate 13 100).length ≤ 13 ∧
    (∀ g ∈ List.replicate 13 100, g ≤ start.params.maskTicks.toNat) ∧
    ∀ x, 1 ≤ (rotPayload start.params x).length ∧ (rotPayload start.params x).length ≤ 256 :=
  ⟨rfl, rfl, rfl, by decide, by decide, fun x => ⟨by
    show 1 ≤ 7; decide, by show 7 ≤ 256; decide⟩⟩

/-- The first gap next to the mask, and the longest measured one. -/
theorem witness_NewGroupEmitsAtItsThirteenthEdge :
    start.lastedge = start.cnt ∧ start.ctx = [] ∧ start.params.maskTicks.toNat < 101 ∧ 101 ≤ 0xFFFF ∧
    start.params.maskTicks.toNat < 0xFFFF ∧ (List.replicate 12 100).length ≤ 12 ∧
    (∀ g ∈ List.replicate 12 100, g ≤ start.params.maskTicks.toNat) ∧
    ∀ x, 1 ≤ (rotPayload start.params x).length ∧ (rotPayload start.params x).length ≤ 256 :=
  ⟨rfl, rfl, by decide, by decide, by decide, by decide, by decide, fun x => ⟨by
    show 1 ≤ 7; decide, by show 7 ≤ 256; decide⟩⟩

theorem witness_PayloadFieldsAreLittleEndian :
    start.params.rotLayout =
      some [.literal 0x4E, .literal 0x00, .rotationEventCounter, .torqueTicks, .timeStampHalfUnits] ∧
    start.params.calLayout = some [.literal 0x4E, .literal 0x01, .offset] := by decide

/-- The fixtures have no two neighbouring 8-bit fields but constants and the counter. -/
theorem start_admittedBuilders : AdmittedBuilders start.params where
  rotLength x := ⟨by show 1 ≤ 7; decide, by show 7 ≤ 256; decide⟩
  calLength offset := ⟨by show 1 ≤ 4; decide, by show 4 ≤ 256; decide⟩
  torqueTicks := by
    rintro ⟨k, h⟩
    have h₀ := (h ⟨0, 0x0101, 0⟩).2
    have h₁ := (h ⟨0, 0x0202, 0⟩).2
    rcases k with _ | _ | _ | _ | k
    · revert h₀ h₁; decide
    · revert h₀ h₁; decide
    · revert h₀ h₁; decide
    · revert h₀ h₁; decide
    · exact nomatch (show (none : Option PayloadField) = some _ from h₀)
  timeStampHalfUnits := by
    rintro ⟨k, h⟩
    have h₀ := (h ⟨0, 0, 0x0101⟩).2
    have h₁ := (h ⟨0, 0, 0x0202⟩).2
    rcases k with _ | _ | _ | _ | k
    · revert h₀ h₁; decide
    · revert h₀ h₁; decide
    · revert h₀ h₁; decide
    · revert h₀ h₁; decide
    · exact nomatch (show (none : Option PayloadField) = some _ from h₀)
  offset := by
    rintro ⟨k, h⟩
    have h₀ := (h 0x0101).2
    have h₁ := (h 0x0202).2
    rcases k with _ | _ | k
    · revert h₀ h₁; decide
    · revert h₀ h₁; decide
    · exact nomatch (show (none : Option PayloadField) = some _ from h₀)

theorem witness_AdmittedBuildersAreNeverRefused :
    let s : State := { start with tqpend := true, calpend := true, calie := true, pulsecount := 12 }
    AdmittedBuilders s.params ∧ s.tqpend = true ∧ (∀ c ∈ s.ctx, c.who ≠ .TQ) ∧ s.calpend = true ∧ s.calie = true ∧
    ∀ c ∈ s.ctx, c.who ≠ .CAL :=
  ⟨start_admittedBuilders, rfl, by decide, rfl, rfl, by decide⟩

theorem witness_LongGroupEmitsNoSecondSample :
    let s : State := { start with tqpend := true, pulsecount := 13, cnt := 100 }
    13 ≤ s.pulsecount.toNat ∧ (elapsedTicks s.cnt s.lastedge).toNat ≤ s.params.maskTicks.toNat ∧
    ∃ t, exec .torqueIsr s = .next t :=
  ⟨by decide, by decide, exists_next (by decide)⟩

/-- V-TQ3: the clamped count. -/
theorem witness_LongGroupEmitsNoSecondSample_clamped :
    let s : State := { start with tqpend := true, pulsecount := 0xFFFF, cnt := 10 }
    13 ≤ s.pulsecount.toNat ∧ (elapsedTicks s.cnt s.lastedge).toNat ≤ s.params.maskTicks.toNat ∧
    ∃ t, exec .torqueIsr s = .next t ∧ (t.pulsecount == 0xFFFF) = true :=
  ⟨by decide, by decide, exists_next_with (by decide)⟩

theorem witness_CalExpirySetsCalpendWhenEnabled :
    ({ start with calie := true } : State).calie = true ∧ start.calie = false := by decide

theorem witness_CalIsrSnapshotsAndSends :
    let s : State := { start with calpend := true, calie := true, ctx := [⟨.TQ, [1]⟩] }
    (s.calpend = true ∧ s.calie = true ∧ ∀ c ∈ s.ctx, c.who ≠ .CAL) ∧
    (1 ≤ (calPayload start.params 0xFFFF).length ∧ (calPayload start.params 0xFFFF).length ≤ 256) ∧
    ¬(1 ≤ (calPayload startUnframed.params 0).length ∧ (calPayload startUnframed.params 0).length ≤ 256) ∧
    ¬(start.calpend = true ∧ start.calie = true ∧ ∀ c ∈ start.ctx, c.who ≠ .CAL) := by decide

/-- An operation outside every group of R50. -/
theorem witness_StateGroupsHaveOnlyTheirWriters :
    (∃ t, exec .tick start = .next t) ∧ Instr.tick ∉ [Instr.reset, .torqueIsr, .calIsr, .ctxSend, .txIsr, .rxIsr, .rxRead,
      .modeEdge, .calExpiry] :=
  ⟨exists_next (by decide), by decide⟩

theorem witness_RefusedIsNeverCleared :
    let s : State := { start with refused := true, script := [0x3F, 0, 0, 0, 0] }
    s.refused = true ∧ (∃ t, exec .reset s = .next t) ∧ ∃ t, step s = .next t :=
  ⟨rfl, exists_next (by decide), exists_next (by decide)⟩

theorem witness_ParametersAreFixedAndOutputsGrow :
    ∃ t, step { start with script := [0x80, 0, 1, 0, 0] } = .next t := exists_next (by decide)

/-- A state with all three contexts meets the invariants, and it can step. -/
theorem witness_EveryStepKeepsTheStateInvariants :
    let s : State := { start with
      mode := .calibrationCapture, calie := true, calpend := true, txbitcnt := 10, rxcap := false
      ctx := [⟨.CAL, [1]⟩, ⟨.TQ, [2, 3]⟩, ⟨.FG, [4]⟩], script := [0x44, 0, 0, 0, 0] }
    StateOk s ∧ ∃ t, step s = .next t :=
  ⟨{ txbitcnt := by decide, rxbitcnt := by decide, sampling := by decide, rxie := by decide, calie := by decide,
     calpend := by decide, wake := by decide
     contexts := { nonempty := by decide, distinct := by decide, foregroundAtBottom := by decide } },
   exists_next (by decide)⟩

/-- The third context is pushed by the step itself. -/
theorem witness_AtMostThreeSendingContexts :
    let s : State := { start with
      tqpend := true, pulsecount := 12, ctx := [⟨.CAL, [2]⟩, ⟨.FG, [3]⟩], script := [0x42, 0, 0, 0, 0] }
    StateOk s ∧ ∃ t, step s = .next t ∧ (t.ctx.length == 3) = true :=
  ⟨{ txbitcnt := by decide, rxbitcnt := by decide, sampling := by decide, rxie := by decide, calie := by decide,
     calpend := by decide, wake := by decide
     contexts := { nonempty := by decide, distinct := by decide, foregroundAtBottom := by decide } },
   exists_next_with (by decide)⟩

theorem witness_IllegalOpcodesAreRefused :
    (0x00 : Byte).toNat ∉ [0x01, 0x10, 0x11, 0x20, 0x21, 0x22, 0x30, 0x31, 0x3F, 0x40, 0x41, 0x42, 0x43, 0x44, 0x80, 0x81,
      0x82, 0x83, 0x84] ∧
    (0x85 : Byte).toNat ∉ [0x01, 0x10, 0x11, 0x20, 0x21, 0x22, 0x30, 0x31, 0x3F, 0x40, 0x41, 0x42, 0x43, 0x44, 0x80, 0x81,
      0x82, 0x83, 0x84] ∧
    ({ start with script := [0x85, 0, 0, 0, 0, 9] } : State).script = 0x85 :: 0 :: 0 :: 0 :: 0 :: [9] := by decide

/-- The smallest operand of each format with a reserved bit set, and the counts next to the admitted ranges. -/
theorem witness_ReservedBitsThenCountAreRefused :
    (Op.tick.format = .N ∧ 1 ≤ (1#32).toNat) ∧ (Op.rxLine.format = .L ∧ 2 ≤ (2#32).toNat) ∧
    (Op.txPack.format = .B ∧ 256 ≤ (256#32).toNat) ∧ (Op.classify.format = .W ∧ 65536 ≤ (65536#32).toNat) ∧
    (Op.checksum.format = .FR ∧ 512 ≤ (512#32).toNat) ∧
    ((257#32).toNat < 512 ∧ 256 < (257#32).toNat ∧ (0#32).toNat < 512 ∧ (0#32).toNat = 0) ∧
    ({ start with script := [0x83, 0, 0, 0, 0] } : State).script = Op.frameBuild.code :: operandBytes 0 ++ [] ∧
    ({ start with script := [0x82, 0, 0, 1, 1] } : State).script = Op.checksum.code :: operandBytes 257 ++ [] := by decide

/-- T = 1 and T = 43691, the values next to the admitted range. -/
theorem witness_InadmissibleBitPeriodRefusesEveryStep :
    let low : State := { State.initial (fixtures (bitPeriodOfTicks 1)) with script := [0x01, 0, 0, 0, 0] }
    let high : State := { State.initial (fixtures (bitPeriodOfTicks 43691)) with script := [0x01, 0, 0, 0, 0] }
    ¬(2 ≤ bitTicks low ∧ bitTicks low ≤ 43690) ∧ ¬(2 ≤ bitTicks high ∧ bitTicks high ≤ 43690) ∧
    (∃ t, step low = .next t) ∧ (∃ t, step high = .next t) ∧ decode low.script = .instr .tick [] :=
  ⟨by decide, by decide, exists_next (by decide), exists_next (by decide), by decide⟩

/-- T = 2 and T = 43690, the ends of the admitted range. -/
theorem witness_StepRunsTheDecodedOperation :
    let low : State := { startShort with script := [0x30, 0, 0, 0, 0x55, 0x01] }
    let high : State := { State.initial (fixtures (bitPeriodOfTicks 43690)) with script := [0x30, 0, 0, 0, 0x55, 0x01] }
    (2 ≤ bitTicks low ∧ bitTicks low ≤ 43690) ∧ (2 ≤ bitTicks high ∧ bitTicks high ≤ 43690) ∧
    (Instr.fgSend 0x55).wellFormed = true ∧ low.script = encode (.fgSend 0x55) ++ [0x01] ∧
    high.script = encode (.fgSend 0x55) ++ [0x01] := by decide

theorem witness_DecodeInvertsEncode : (Instr.frameBuild (List.replicate 256 0xFF)).wellFormed = true ∧
    (Instr.checksum []).wellFormed = true :=
  ⟨payloadLengthOk_replicate 256 0xFF, by decide⟩

theorem witness_EveryDescriptorIsTheEncodingOfItsOperation :
    decode [0x82, 0, 0, 0, 0, 0xFF] = .instr (.checksum []) [0xFF] := by decide

end Sys2Proof.Tests
end

section
/-! Scope (00_scope.md R8, R10, R13; 10_state.md R52): the parameters are fixed, and the record of observations
only grows. -/

namespace Sys2Proof.Machine

/-- What no operation takes back: `t` has the parameters of `s`, and the observations of `s` (newest first) still
stand in `t`, behind newer ones. -/
structure Extends (s t : State) : Prop where
  params : t.params = s.params
  outputs : s.outputs <:+ t.outputs

theorem Extends.refl (s : State) : Extends s s := ⟨rfl, List.suffix_rfl⟩

theorem Extends.trans {s t u : State} (h : Extends s t) (h' : Extends t u) : Extends s u :=
  ⟨h'.params.trans h.params, h.outputs.trans h'.outputs⟩

theorem Extends.of_outputs_eq {s t : State} (hp : t.params = s.params) (ho : t.outputs = s.outputs) : Extends s t :=
  ⟨hp, ho ▸ List.suffix_rfl⟩

theorem Extends.of_outputs_cons {s t : State} {o : Output} (hp : t.params = s.params)
    (ho : t.outputs = o :: s.outputs) : Extends s t :=
  ⟨hp, ho ▸ List.suffix_cons o s.outputs⟩

theorem refuse_extends (r : Reason) (s : State) : Extends s (refuse r s) := .of_outputs_cons rfl rfl

theorem sendFrame_extends (w : Who) (f : List Byte) (s : State) : Extends s (sendFrame w f s) :=
  .of_outputs_cons rfl rfl

theorem enterHandler_extends (src : Source) (s : State) : Extends s (enterHandler src s) := by
  cases src <;> exact .of_outputs_eq rfl rfl

theorem countEdge_extends (s : State) : Extends s (countEdge s) :=
  .of_outputs_eq (countEdge_params s) (countEdge_outputs s)

theorem recordRotation_extends (s : State) : Extends s (recordRotation s) := .of_outputs_eq rfl rfl

/-- TICK observes at most the change of the line (R52). -/
theorem execTick_extends {s t : State} (h : execTick s = .next t) : Extends s t := by
  rw [execTick_eq] at h
  cases h
  refine ⟨rfl, ?_⟩
  dsimp only
  split
  · split
    · exact List.suffix_rfl
    · exact List.suffix_cons _ _
  · exact List.suffix_rfl

/-- Each operation leaves the record as it was or adds one observation: a frame, a sent byte, a result, a refusal or
a change of the line. -/
theorem exec_extends {i : Instr} {s t : State} (h : exec i s = .next t) : Extends s t := by
  cases i <;> simp only [exec] at h
  case tick => exact execTick_extends h
  case rxLine v => rw [execRxLine_eq] at h; cases h; exact .of_outputs_eq rfl rfl
  case rxRead => obtain ⟨-, rfl⟩ := execRxRead_next h; exact .of_outputs_cons rfl rfl
  case torqueEdge => obtain rfl := execTorqueEdge_next h; exact .of_outputs_eq rfl rfl
  case calExpiry => obtain rfl := execCalExpiry_next h; exact .of_outputs_eq rfl rfl
  case modeEdge => obtain rfl := execModeEdge_next h; exact .of_outputs_eq rfl rfl
  case fgSend b => obtain ⟨-, rfl⟩ := execFgSend_next h; exact .of_outputs_eq rfl rfl
  case fgFrame p =>
    obtain ⟨-, ⟨f, -, rfl⟩ | ⟨-, rfl⟩⟩ := execFgFrame_next h
    · exact sendFrame_extends .FG f s
    · exact refuse_extends _ s
  case reset => obtain rfl := execReset_next h; exact .of_outputs_eq rfl rfl
  case txIsr => obtain ⟨-, -, ⟨-, rfl⟩ | ⟨-, rfl⟩⟩ := execTxIsr_next h <;> exact .of_outputs_eq rfl rfl
  case rxIsr =>
    obtain ⟨-, -, ⟨-, rfl⟩ | ⟨-, -, rfl⟩ | ⟨-, -, rfl⟩⟩ := execRxIsr_next h <;> exact .of_outputs_eq rfl rfl
  case torqueIsr =>
    have hcount : Extends s (countEdge (enterHandler .torque s)) :=
      (enterHandler_extends .torque s).trans (countEdge_extends _)
    obtain ⟨-, -, ⟨-, rfl⟩ | ⟨-, ⟨f, -, rfl⟩ | ⟨-, rfl⟩⟩⟩ := execTorqueIsr_next h
    · exact hcount
    · exact (hcount.trans (recordRotation_extends _)).trans (sendFrame_extends .TQ f _)
    · exact refuse_extends _ s
  case calIsr =>
    obtain ⟨-, -, -, ⟨f, -, rfl⟩ | ⟨-, rfl⟩⟩ := execCalIsr_next h
    · exact .of_outputs_cons rfl rfl
    · exact refuse_extends _ s
  case ctxSend => obtain ⟨w, b, l, bl, -, -, rfl⟩ := execCtxSend_next h; exact .of_outputs_cons rfl rfl
  case elapsed x y => obtain rfl := execElapsed_next h; exact .of_outputs_cons rfl rfl
  case txPack b => obtain rfl := execTxPack_next h; exact .of_outputs_cons rfl rfl
  case checksum xs =>
    obtain ⟨-, rfl⟩ | ⟨-, rfl⟩ := execChecksum_next h
    · exact .of_outputs_cons rfl rfl
    · exact refuse_extends _ s
  case frameBuild p =>
    obtain ⟨f, -, rfl⟩ | ⟨-, rfl⟩ := execFrameBuild_next h
    · exact .of_outputs_cons rfl rfl
    · exact refuse_extends _ s
  case classify g => obtain rfl := execClassify_next h; exact .of_outputs_cons rfl rfl

theorem step_extends {s t : State} (h : step s = .next t) : Extends s t :=
  step_keeps (P := Extends s)
    (hexec := fun _ _ _ hs he => hs.trans (exec_extends he))
    (hscript := fun _ _ hs => hs.trans (.of_outputs_eq rfl rfl))
    (hrefuse := fun r u hs => hs.trans (refuse_extends r u))
    (.refl s) h

/-- Settles O42: every operation and every refusal extends the state it is taken in, so a step does. -/
theorem parametersAreFixedAndOutputsGrow : Obligations.ParametersAreFixedAndOutputsGrow := by
  intro s t h
  obtain ⟨hparams, new, hnew⟩ := step_extends h
  exact ⟨hparams, new, hnew.symm⟩

end Sys2Proof.Machine
end

section
/-! Reset (10_state.md R49; 70_reset_and_hazards.md R280): the state a run starts from and the state a RESET leaves hold
the table, and a state that holds the table meets the invariants of the state and of the line. -/

namespace Sys2Proof.Machine

theorem initial_resetTable (p : Params) : ResetTable (State.initial p) := by
  constructor <;> rfl

theorem resetBlock_resetTable (s : State) : ResetTable (resetBlock s) := by
  constructor <;> rfl

theorem contextsOk_nil : ContextsOk [] where
  nonempty := by simp
  distinct := List.nodup_nil
  foregroundAtBottom := by simp

/-- The invariants hold of the table: no count is out of range, the receiver waits for a start edge, no calibration
expiry is pending and CTX is empty. -/
theorem ResetTable.stateOk {t : State} (h : ResetTable t) : StateOk t where
  txbitcnt := by simp [h.txbitcnt]
  rxbitcnt := by simp [h.rxbitcnt]
  sampling := by simp [h.rxcap]
  rxie := h.rxie
  calie := h.calie
  calpend := by simp [h.calpend]
  wake := h.wake.trans h.rxfull.symm
  contexts := h.ctx ▸ contextsOk_nil

/-- The table's channel is not busy and its line is at mark. -/
theorem ResetTable.lineOk {t : State} (h : ResetTable t) : LineOk t where
  idle := fun _ => ⟨h.txoutmod, h.txout⟩
  stopLast := by simp [h.txie]
  stopProgrammed := by simp [h.txie]
  stopDriven := by simp [h.txie]

/-- Settles O2: the table, for the parameters of the run. -/
theorem runStartsFromTheResetTable : Obligations.RunStartsFromTheResetTable :=
  ⟨initial_resetTable Config.params, rfl⟩

/-- Settles O14: the table's channel is not busy, so the line invariant holds of it. -/
theorem resetLeavesTheLineAtMark : Obligations.ResetLeavesTheLineAtMark :=
  (initial_resetTable Config.params).lineOk

/-- Settles O44: the invariants hold of the table. -/
theorem resetMeetsTheStateInvariants : Obligations.ResetMeetsTheStateInvariants :=
  (initial_resetTable Config.params).stateOk

end Sys2Proof.Machine
end

section
/-! The index view (10_state.md R48): what a control word holds at each bit. -/

namespace Sys2Proof.Machine

theorem packBits_cons (b : Bool) (bits : List Bool) :
    packBits (b :: bits) = (packBits bits <<< 1) ||| BitVec.ofNat 8 b.toNat := rfl

/-- Bit `k` of a control word is the `k`-th of its fields, and 0 beyond them. -/
@[simp] theorem packBits_getElem (bits : List Bool) (k : Nat) (hk : k < 8) :
    (packBits bits)[k] = bits.getD k false := by
  induction bits generalizing k with
  | nil => simp [packBits]
  | cons b bits ih =>
    rw [← BitVec.getLsbD_eq_getElem, packBits_cons, BitVec.getLsbD_or, BitVec.getLsbD_shiftLeft]
    cases k with
    | zero => cases b <;> simp
    | succ k =>
      have hbit := ih k (by omega)
      rw [← BitVec.getLsbD_eq_getElem] at hbit
      cases b <;> simp [hbit, hk]

/-- A control word of `n` fields is below `2 ^ n`: its higher bits read as 0. -/
theorem packBits_toNat_lt (bits : List Bool) : (packBits bits).toNat < 2 ^ bits.length := by
  induction bits with
  | nil => simp [packBits]
  | cons b bits ih =>
    rw [packBits_cons, BitVec.toNat_or, BitVec.toNat_shiftLeft, List.length_cons]
    refine Nat.or_lt_two_pow ?_ ?_
    · refine (Nat.mod_le _ _).trans_lt ?_
      rw [Nat.shiftLeft_eq]; omega
    · have := Nat.two_pow_pos bits.length
      have := b.toNat_lt
      rw [BitVec.toNat_ofNat]; omega

theorem packBits_setWidth_toNat_lt {bits : List Bool} (n : Nat) (hn : bits.length = n) :
    ((packBits bits).setWidth 16).toNat < 2 ^ n := by
  rw [BitVec.toNat_setWidth_of_le (by decide), ← hn]
  exact packBits_toNat_lt bits

/-- Settles O46: each word is the pack of its own fields, read bit by bit. -/
theorem controlWordsShowTheirFields : Obligations.ControlWordsShowTheirFields := by
  intro s
  refine ⟨⟨_, rfl, packBits_setWidth_toNat_lt 4 rfl, ?_⟩, ⟨_, rfl, packBits_setWidth_toNat_lt 5 rfl, ?_⟩,
    ⟨_, rfl, packBits_setWidth_toNat_lt 8 rfl, ?_⟩⟩
  · simp [txctl]
  · simp [rxctl]
  · simp [stat]

end Sys2Proof.Machine
end

section
/-! Which operation writes what (10_state.md R22, R46, R50). -/

namespace Sys2Proof.Machine

/-- What the operation `i`, not RESET, leaves alone between `s` and `t`: each group of R50 unless `i` is one of its
writers, CNT unless `i` is TICK (R22), and RXIE (R27). REFUSED is not cleared (R46). -/
structure KeepsGroups (i : Instr) (s t : State) : Prop where
  counter : i ≠ .tick → t.cnt = s.cnt
  transmitter : i ≠ .ctxSend → i ≠ .txIsr → t.txccr = s.txccr ∧ t.txie = s.txie ∧ t.txoutmod = s.txoutmod ∧
    t.txshift = s.txshift ∧ t.txbitcnt = s.txbitcnt
  receiver : i ≠ .rxIsr → t.rxcap = s.rxcap ∧ t.rxshift = s.rxshift ∧ t.rxbitcnt = s.rxbitcnt ∧ t.rxbuf = s.rxbuf
  received : i ≠ .rxIsr → i ≠ .rxRead → t.rxfull = s.rxfull ∧ t.wake = s.wake
  capture : i ≠ .rxIsr → t.rxccr = s.rxccr ∨ ∃ v, i = .rxLine v ∧ t.rxccr = s.cnt
  receiveEnable : t.rxie = s.rxie
  pulse : i ≠ .torqueIsr → t.pulsecount = s.pulsecount ∧ t.torqueticket = s.torqueticket ∧ t.lastedge = s.lastedge ∧
    t.lasttx = s.lasttx ∧ t.rotcnt = s.rotcnt
  calibration : i ≠ .calIsr → t.caloffset = s.caloffset ∧ t.indicator = s.indicator
  mode : i ≠ .modeEdge → t.mode = s.mode ∧ t.calie = s.calie
  expiry : i ≠ .modeEdge → i ≠ .calExpiry → i ≠ .calIsr → t.calpend = s.calpend
  refused : s.refused = true → t.refused = true

theorem observe_keepsGroups (i : Instr) (o : Output) (s : State) : KeepsGroups i s (observe o s) := by
  constructor <;> simp

theorem refuse_keepsGroups (i : Instr) (r : Reason) (s : State) : KeepsGroups i s (refuse r s) := by
  constructor <;> simp

/-- Each operation keeps the groups it is no writer of. -/
theorem exec_keepsGroups {i : Instr} {s t : State} (h : exec i s = .next t) (hreset : i ≠ .reset) :
    KeepsGroups i s t := by
  cases i <;> simp only [exec] at h
  case tick => rw [execTick_eq] at h; cases h; constructor <;> simp
  case rxLine v =>
    rw [execRxLine_eq] at h
    cases h
    constructor
    case capture => intro _; dsimp only; split <;> simp
    all_goals simp
  case rxRead => obtain ⟨-, rfl⟩ := execRxRead_next h; constructor <;> simp
  case torqueEdge => obtain rfl := execTorqueEdge_next h; constructor <;> simp
  case calExpiry => obtain rfl := execCalExpiry_next h; constructor <;> simp
  case modeEdge => obtain rfl := execModeEdge_next h; constructor <;> simp
  case fgSend b => obtain ⟨-, rfl⟩ := execFgSend_next h; constructor <;> simp
  case fgFrame p =>
    obtain ⟨-, ⟨f, -, rfl⟩ | ⟨-, rfl⟩⟩ := execFgFrame_next h
    · constructor <;> simp
    · exact refuse_keepsGroups _ _ s
  case reset => exact absurd rfl hreset
  case txIsr => obtain ⟨-, -, ⟨-, rfl⟩ | ⟨-, rfl⟩⟩ := execTxIsr_next h <;> constructor <;> simp
  case rxIsr =>
    obtain ⟨-, -, ⟨-, rfl⟩ | ⟨-, -, rfl⟩ | ⟨-, -, rfl⟩⟩ := execRxIsr_next h <;> constructor <;> simp
  case torqueIsr =>
    obtain ⟨-, -, ⟨-, rfl⟩ | ⟨-, ⟨f, -, rfl⟩ | ⟨-, rfl⟩⟩⟩ := execTorqueIsr_next h
    · constructor <;> simp
    · constructor <;> simp
    · exact refuse_keepsGroups _ _ s
  case calIsr =>
    obtain ⟨-, -, -, ⟨f, -, rfl⟩ | ⟨-, rfl⟩⟩ := execCalIsr_next h
    · constructor <;> simp
    · exact refuse_keepsGroups _ _ s
  case ctxSend => obtain ⟨w, b, l, bl, -, -, rfl⟩ := execCtxSend_next h; constructor <;> simp
  case elapsed x y => obtain rfl := execElapsed_next h; exact observe_keepsGroups _ _ s
  case txPack b => obtain rfl := execTxPack_next h; exact observe_keepsGroups _ _ s
  case checksum xs =>
    obtain ⟨-, rfl⟩ | ⟨-, rfl⟩ := execChecksum_next h
    · exact observe_keepsGroups _ _ s
    · exact refuse_keepsGroups _ _ s
  case frameBuild p =>
    obtain ⟨f, -, rfl⟩ | ⟨-, rfl⟩ := execFrameBuild_next h
    · exact observe_keepsGroups _ _ s
    · exact refuse_keepsGroups _ _ s
  case classify g => obtain rfl := execClassify_next h; exact observe_keepsGroups _ _ s

/-- Settles O5: every operation but TICK keeps CNT. -/
theorem onlyTickAndResetWriteTheCounter : Obligations.OnlyTickAndResetWriteTheCounter :=
  fun _ _ _ h htick hreset => (exec_keepsGroups h hreset).counter htick

/-- Settles O39: the groups that `KeepsGroups` names, gathered as R50 lists them. -/
theorem stateGroupsHaveOnlyTheirWriters : Obligations.StateGroupsHaveOnlyTheirWriters := by
  intro i s t h hreset
  have hk := exec_keepsGroups h hreset
  refine ⟨hk.pulse, hk.calibration, hk.transmitter, fun hrx => ?_, fun hmode => ?_⟩
  · obtain ⟨hcap, hshift, hcnt, hbuf⟩ := hk.receiver hrx
    exact ⟨hcap, hshift, hcnt, hbuf, hk.received hrx, hk.capture hrx⟩
  · obtain ⟨hm, hie⟩ := hk.mode hmode
    exact ⟨hm, hie, hk.expiry hmode⟩

/-- RESET leaves REFUSED as it is (R46), and no other operation clears it. -/
theorem exec_keeps_refused {i : Instr} {s t : State} (hs : s.refused = true) (h : exec i s = .next t) :
    t.refused = true := by
  by_cases hreset : i = .reset
  · subst hreset
    obtain rfl := execReset_next h
    exact hs
  · exact (exec_keepsGroups h hreset).refused hs

/-- Settles O41: every operation keeps REFUSED = 1, and a refused step sets it. -/
theorem refusedIsNeverCleared : Obligations.RefusedIsNeverCleared :=
  ⟨fun _ _ _ => exec_keeps_refused,
   fun _ _ => step_keeps (P := fun u => u.refused = true) (fun _ _ _ => exec_keeps_refused) (fun _ _ hs => hs)
     (fun _ _ _ => rfl)⟩

end Sys2Proof.Machine
end

section
/-! The invariants of the state (10_state.md R27, R30, R32, R35, R43, R45; 42_uart_rx.md R153; 44_capture.md R210): what
an operation does to CTX, to the counts of the two channels and to the enable of the calibration handler. -/

namespace Sys2Proof.Machine

section Operations

variable {i : Instr} {s t : State}

/-- What an operation other than RESET does to CTX (R45): nothing, the push of a context whose source is not there yet
(a foreground one only onto the empty stack), or, by CTX_SEND, the taking of the top context's first byte. -/
theorem exec_ctx_cases (h : exec i s = .next t) (hreset : i ≠ .reset) :
    t.ctx = s.ctx ∨
    (∃ who bytes, t.ctx = ⟨who, bytes⟩ :: s.ctx ∧ bytes ≠ [] ∧ (∀ c ∈ s.ctx, c.who ≠ who) ∧
      (who ≠ .FG ∨ s.ctx = [])) ∨
    (i = .ctxSend ∧ ∃ who b later below, s.ctx = ⟨who, b :: later⟩ :: below ∧ t.ctx = nextByte who later below) := by
  cases i <;> simp only [exec] at h
  case tick => rw [execTick_eq] at h; cases h; exact .inl rfl
  case rxLine v => rw [execRxLine_eq] at h; cases h; exact .inl rfl
  case rxRead => obtain ⟨-, rfl⟩ := execRxRead_next h; exact .inl rfl
  case torqueEdge => obtain rfl := execTorqueEdge_next h; exact .inl rfl
  case calExpiry => obtain rfl := execCalExpiry_next h; exact .inl rfl
  case modeEdge => obtain rfl := execModeEdge_next h; exact .inl rfl
  case fgSend b =>
    obtain ⟨hempty, rfl⟩ := execFgSend_next h
    exact .inr (.inl ⟨.FG, [b], rfl, by simp, by simp [hempty], .inr hempty⟩)
  case fgFrame p =>
    obtain ⟨hempty, ⟨f, hf, rfl⟩ | ⟨-, rfl⟩⟩ := execFgFrame_next h
    · exact .inr (.inl ⟨.FG, f, rfl, buildFrame_ne hf, by simp [hempty], .inr hempty⟩)
    · exact .inl rfl
  case reset => exact absurd rfl hreset
  case txIsr => obtain ⟨-, -, ⟨-, rfl⟩ | ⟨-, rfl⟩⟩ := execTxIsr_next h <;> exact .inl rfl
  case rxIsr => obtain ⟨-, -, ⟨-, rfl⟩ | ⟨-, -, rfl⟩ | ⟨-, -, rfl⟩⟩ := execRxIsr_next h <;> exact .inl rfl
  case torqueIsr =>
    obtain ⟨-, hfree, ⟨-, rfl⟩ | ⟨-, ⟨f, hf, rfl⟩ | ⟨-, rfl⟩⟩⟩ := execTorqueIsr_next h
    · exact .inl (by simp)
    · exact .inr (.inl ⟨.TQ, f, by simp, buildFrame_ne hf, hfree, .inl (by decide)⟩)
    · exact .inl rfl
  case calIsr =>
    obtain ⟨-, -, hfree, ⟨f, hf, rfl⟩ | ⟨-, rfl⟩⟩ := execCalIsr_next h
    · exact .inr (.inl ⟨.CAL, f, rfl, buildFrame_ne hf, hfree, .inl (by decide)⟩)
    · exact .inl rfl
  case ctxSend =>
    obtain ⟨who, b, later, below, hctx, -, rfl⟩ := execCtxSend_next h
    exact .inr (.inr ⟨rfl, who, b, later, below, hctx, rfl⟩)
  case elapsed x y => obtain rfl := execElapsed_next h; exact .inl rfl
  case txPack b => obtain rfl := execTxPack_next h; exact .inl rfl
  case checksum xs => obtain ⟨-, rfl⟩ | ⟨-, rfl⟩ := execChecksum_next h <;> exact .inl rfl
  case frameBuild p => obtain ⟨f, -, rfl⟩ | ⟨-, rfl⟩ := execFrameBuild_next h <;> exact .inl rfl
  case classify g => obtain rfl := execClassify_next h; exact .inl rfl

theorem exec_contextsOk (hs : ContextsOk s.ctx) (h : exec i s = .next t) (hreset : i ≠ .reset) : ContextsOk t.ctx := by
  obtain hkeep | ⟨who, bytes, hpush, hbytes, hfree, hbottom⟩ | ⟨-, who, b, later, below, htop, htake⟩ :=
    exec_ctx_cases h hreset
  · rwa [hkeep]
  · rw [hpush]
    exact contextsOk_push hs hbytes hfree hbottom
  · rw [htake]
    exact contextsOk_nextByte (htop ▸ hs)

theorem exec_txbitcnt_le (hs : s.txbitcnt ≤ 10) (h : exec i s = .next t) (hreset : i ≠ .reset) : t.txbitcnt ≤ 10 := by
  by_cases hsend : i = .ctxSend
  · subst hsend
    obtain ⟨who, b, later, below, -, -, rfl⟩ := execCtxSend_next h
    simp
  by_cases hisr : i = .txIsr
  · subst hisr
    obtain ⟨-, -, ⟨-, rfl⟩ | ⟨hleft, rfl⟩⟩ := execTxIsr_next h
    · exact hs
    · dsimp only
      bv_omega
  obtain ⟨-, -, -, -, hcnt⟩ := (exec_keepsGroups h hreset).transmitter hsend hisr
  rwa [hcnt]

/-- The receiver's count stays in range, and above 0 while it samples (R153): the sample that brings it to 0 ends the
byte and goes back to capture mode. -/
theorem exec_rxbitcnt_ok (hle : s.rxbitcnt ≤ 8) (hpos : s.rxcap = false → 1 ≤ s.rxbitcnt) (h : exec i s = .next t)
    (hreset : i ≠ .reset) : t.rxbitcnt ≤ 8 ∧ (t.rxcap = false → 1 ≤ t.rxbitcnt) := by
  by_cases hisr : i = .rxIsr
  · subst hisr
    obtain ⟨-, -, ⟨-, rfl⟩ | ⟨hcap, hmore, rfl⟩ | ⟨-, -, rfl⟩⟩ := execRxIsr_next h
    · simp
    · have := hpos hcap
      dsimp only
      exact ⟨by bv_omega, fun _ => by bv_omega⟩
    · simp
  obtain ⟨hcap, -, hcnt, -⟩ := (exec_keepsGroups h hreset).receiver hisr
  rw [hcap, hcnt]
  exact ⟨hle, hpos⟩

theorem exec_wake_eq_rxfull (hs : s.wake = s.rxfull) (h : exec i s = .next t) (hreset : i ≠ .reset) :
    t.wake = t.rxfull := by
  by_cases hisr : i = .rxIsr
  · subst hisr
    obtain ⟨-, -, ⟨-, rfl⟩ | ⟨-, -, rfl⟩ | ⟨-, -, rfl⟩⟩ := execRxIsr_next h
    · exact hs
    · exact hs
    · rfl
  by_cases hread : i = .rxRead
  · subst hread
    obtain ⟨-, rfl⟩ := execRxRead_next h
    rfl
  obtain ⟨hfull, hwake⟩ := (exec_keepsGroups h hreset).received hisr hread
  rw [hfull, hwake, hs]

theorem exec_calie_eq_mode (hs : s.calie = modeBit s.mode) (h : exec i s = .next t) (hreset : i ≠ .reset) :
    t.calie = modeBit t.mode := by
  by_cases hedge : i = .modeEdge
  · subst hedge
    obtain rfl := execModeEdge_next h
    rfl
  obtain ⟨hmode, hie⟩ := (exec_keepsGroups h hreset).mode hedge
  rw [hmode, hie, hs]

/-- A calibration expiry is pending only while its interrupt is enabled (R210, R215): CAL_EXPIRY sets it only then, and
MODE_EDGE clears it with the enable. -/
theorem exec_calpend_enabled (hs : s.calpend = true → s.calie = true) (h : exec i s = .next t) (hreset : i ≠ .reset) :
    t.calpend = true → t.calie = true := by
  by_cases hedge : i = .modeEdge
  · subst hedge
    obtain rfl := execModeEdge_next h
    simp
  obtain ⟨-, hie⟩ := (exec_keepsGroups h hreset).mode hedge
  by_cases hexp : i = .calExpiry
  · subst hexp
    obtain rfl := execCalExpiry_next h
    simpa [or_imp] using hs
  by_cases hisr : i = .calIsr
  · subst hisr
    obtain ⟨-, henabled, -⟩ := execCalIsr_next h
    exact fun _ => hie.trans henabled
  rw [(exec_keepsGroups h hreset).expiry hedge hexp hisr, hie]
  exact hs

/-- Every operation keeps the invariants, RESET by the table it leaves. -/
theorem exec_stateOk (hs : StateOk s) (h : exec i s = .next t) : StateOk t := by
  by_cases hreset : i = .reset
  · subst hreset
    obtain rfl := execReset_next h
    exact (resetBlock_resetTable s).stateOk
  obtain ⟨hrxbitcnt, hsampling⟩ := exec_rxbitcnt_ok hs.rxbitcnt hs.sampling h hreset
  exact {
    txbitcnt := exec_txbitcnt_le hs.txbitcnt h hreset
    rxbitcnt := hrxbitcnt
    sampling := hsampling
    rxie := (exec_keepsGroups h hreset).receiveEnable.trans hs.rxie
    calie := exec_calie_eq_mode hs.calie h hreset
    calpend := exec_calpend_enabled hs.calpend h hreset
    wake := exec_wake_eq_rxfull hs.wake h hreset
    contexts := exec_contextsOk hs.contexts h hreset }

/-- The invariants depend neither on the script nor on what a refusal writes. -/
theorem StateOk.withScript (hs : StateOk s) (rest : List Byte) : StateOk { s with script := rest } :=
  hs.same rfl rfl rfl rfl rfl rfl rfl rfl rfl hs.contexts

theorem StateOk.refuse (hs : StateOk s) (r : Reason) : StateOk (refuse r s) :=
  hs.same rfl rfl rfl rfl rfl rfl rfl rfl rfl hs.contexts

end Operations

/-- Settles O43: every operation keeps the invariants, and a step is an operation or a refusal. -/
theorem everyStepKeepsTheStateInvariants : Obligations.EveryStepKeepsTheStateInvariants :=
  fun _ _ hs h => step_keeps (P := StateOk) (fun _ _ _ => exec_stateOk) (fun _ rest hu => hu.withScript rest)
    (fun r _ hu => hu.refuse r) hs h

end Sys2Proof.Machine
end

section
/-! Runs of ticks (10_state.md R26; 41_uart_tx.md R125). -/

namespace Sys2Proof.Machine

/-- How many ticks come before the one that brings CNT to TXCCR (R26): 65535 when they are equal. -/
def ticksBeforeMatch (s : State) : Nat := (s.txccr.toNat + 65535 - s.cnt.toNat) % 65536

theorem advance_add (v : Word) (m n : Nat) : advance v (m + n) = advance (advance v m) n := by
  simp [advance, BitVec.ofNat_add, BitVec.add_assoc]

theorem advance_succ_eq_txccr_iff (s : State) {n : Nat} (hn : n < 65536) :
    advance s.cnt (n + 1) = s.txccr ↔ n = ticksBeforeMatch s := by
  have hcnt := s.cnt.isLt
  have hccr := s.txccr.isLt
  rw [ticksBeforeMatch, ← BitVec.toNat_inj, advance_toNat]
  omega

/-- What `n` ticks make of the counter and of the TX channel of `s`. -/
structure AfterTicks (n : Nat) (s t : State) : Prop where
  cnt : t.cnt = advance s.cnt n
  txccr : t.txccr = s.txccr
  txoutmod : t.txoutmod = s.txoutmod
  txifg : t.txifg = (s.txifg || decide (ticksBeforeMatch s < n))
  txout : t.txout = if ticksBeforeMatch s < n then s.txoutmod else s.txout

/-- One more tick matches exactly when it is the one that `ticksBeforeMatch` ticks come before. -/
theorem AfterTicks.tick {n : Nat} {s t : State} (ht : AfterTicks n s t) (hn : n < 65536) :
    ∃ u, exec .tick t = .next u ∧ AfterTicks (n + 1) s u := by
  obtain ⟨hcnt, hccr, hmod, hifg, hout⟩ := ht
  have hnext : t.cnt + 1 = advance s.cnt (n + 1) := by rw [hcnt, advance_add]; rfl
  have hmatch : t.cnt + 1 = t.txccr ↔ n = ticksBeforeMatch s := by
    rw [hnext, hccr, advance_succ_eq_txccr_iff s hn]
  have hlt : ticksBeforeMatch s < n + 1 ↔ ticksBeforeMatch s < n ∨ n = ticksBeforeMatch s := by omega
  refine ⟨_, execTick_eq t, hnext, hccr, hmod, ?_, ?_⟩
  · simp only [hmatch, hifg, hlt]
    by_cases hlast : n = ticksBeforeMatch s <;> simp [hlast]
  · simp only [hmatch, hout, hmod, hlt]
    by_cases hlast : n = ticksBeforeMatch s <;> simp [hlast]

theorem runOps_ticks (s : State) (n : Nat) (hn : n ≤ 65536) :
    ∃ t, runOps (List.replicate n .tick) s = .next t ∧ AfterTicks n s t := by
  induction n with
  | zero => exact ⟨s, rfl, by constructor <;> simp [advance]⟩
  | succ n ih =>
    obtain ⟨t, hrun, ht⟩ := ih (by omega)
    obtain ⟨u, htick, hu⟩ := ht.tick (by omega)
    exact ⟨u, by rw [List.replicate_succ', runOps_append hrun, runOps_cons htick]; rfl, hu⟩

/-- Settles O4: the channel after `n` ticks, from a state whose flag is clear. -/
theorem matchComesWhenTheCounterReachesTheRegister : Obligations.MatchComesWhenTheCounterReachesTheRegister := by
  intro s n hn hclear
  obtain ⟨t, hrun, hcnt, -, -, hifg, hout⟩ := runOps_ticks s n hn
  have hflag : t.txifg = true ↔ ticksBeforeMatch s < n := by simp [hifg, hclear]
  refine ⟨t, hrun, by rw [hcnt, advance_toNat], hflag, fun hset => ?_, fun hunset => ?_⟩
  · rw [hout, if_pos (hflag.1 hset)]
  · rw [hout, if_neg (by simp [← hflag, hunset])]

end Sys2Proof.Machine
end

section
/-! The receive shift register (10_state.md R31). -/

namespace Sys2Proof.Machine

/-- A sample enters at bit 7, and every other bit moves down by one. -/
theorem shiftIn_getLsbD (reg : Byte) (sample : Bool) (k : Nat) (hk : k < 8) :
    (shiftIn reg sample).getLsbD k = if k = 7 then sample else reg.getLsbD (k + 1) := by
  rw [shiftIn, BitVec.getLsbD_or, BitVec.getLsbD_ushiftRight, BitVec.getLsbD_shiftLeft, Nat.add_comm 1 k]
  by_cases hlast : k = 7
  · subst hlast
    cases sample <;> simp
  · simp [hlast, show k < 7 by omega]

/-- After any samples, bit `k` is the sample that entered `8 - k` from the end, if there were that many. -/
theorem foldl_shiftIn_getLsbD (old : Byte) (samples : List Bool) (k : Nat) (hk : k < 8)
    (hlen : 8 ≤ k + samples.length) :
    (samples.foldl shiftIn old).getLsbD k = samples.getD (k + samples.length - 8) false := by
  induction samples using List.reverseRecOn generalizing k with
  | nil => simp at hlen; omega
  | append_singleton samples sample ih =>
    rw [List.foldl_append, List.foldl_cons, List.foldl_nil, shiftIn_getLsbD _ _ k hk]
    simp only [List.length_append, List.length_singleton] at hlen ⊢
    split
    · next hlast =>
      rw [hlast, show 7 + (samples.length + 1) - 8 = samples.length by omega]
      simp
    · next hlast =>
      rw [ih (k + 1) (by omega) (by omega), List.getD_append _ _ _ _ (by omega)]
      congr 1
      omega

/-- Settles O22: with 8 samples none of the old bits is left. -/
theorem eightSamplesReplaceTheShiftRegister : Obligations.EightSamplesReplaceTheShiftRegister := by
  intro old samples hlen k hk
  simpa [hlen] using foldl_shiftIn_getLsbD old samples k hk (by omega)

end Sys2Proof.Machine
end

section
/-! The payload builders (20_memory.md R63; 00_scope.md R13). -/

namespace Sys2Proof.Machine

theorem rotFields_of_layout {p : Params} {items : List RotItem} (h : p.rotLayout = some items) (x : RotationSample) :
    rotFields p x = items.map (rotItemField x) := by
  rw [rotFields, h]

theorem calFields_of_layout {p : Params} {items : List CalItem} (h : p.calLayout = some items) (offset : Word) :
    calFields p offset = items.map (calItemField offset) := by
  rw [calFields, h]

/-- Settles O55: whatever fields a builder answers, each is laid out by `fieldBytes`. -/
theorem payloadFieldsAreLittleEndian : Obligations.PayloadFieldsAreLittleEndian := by
  unfold Obligations.PayloadFieldsAreLittleEndian
  intro bytesOf p
  have hbytes : fieldBytes = bytesOf := by
    funext field
    cases field with
    | byte b => rfl
    | word w => exact littleEndian_eq w
  refine ⟨fun x => ?_, fun offset => ?_, fun items x hlayout => ?_, fun items offset hlayout => ?_⟩
  · rw [rotPayload, hbytes]
  · rw [calPayload, hbytes]
  · rw [rotFields_of_layout hlayout]
    exact List.map_congr_left fun item _ => by cases item <;> rfl
  · rw [calFields_of_layout hlayout]
    exact List.map_congr_left fun item _ => by cases item <;> rfl

end Sys2Proof.Machine
end

section
/-! The encodings (30_encoding.md R80 to R94): a descriptor is read back, nothing else is read, and R92's checks refuse
what has no descriptor; the layout of a character. -/

namespace Sys2Proof

open Machine

/-! ### Operands: each field that is laid out is read back, and an operand with its reserved bits 0 is its field -/

theorem operandLevel_ofNat (level : Bool) : operandLevel (BitVec.ofNat 32 level.toNat) = level := by
  cases level <;> rfl

theorem operandCount_ofNat {n : Nat} (hn : n < 512) : operandCount (BitVec.ofNat 32 n) = n := by
  rw [operandCount_eq, BitVec.toNat_ofNat]
  omega

theorem setWidth_operandByte {x : Operand} (hx : x.toNat < 256) : (operandByte x).setWidth 32 = x := by
  apply BitVec.eq_of_toNat_eq
  rw [operandByte, BitVec.toNat_setWidth, BitVec.extractLsb'_toNat, Nat.shiftRight_zero]
  omega

theorem setWidth_operandWord {x : Operand} (hx : x.toNat < 65536) : (operandWord x).setWidth 32 = x := by
  apply BitVec.eq_of_toNat_eq
  rw [operandWord, BitVec.toNat_setWidth, BitVec.extractLsb'_toNat, Nat.shiftRight_zero]
  omega

theorem ofNat_operandLevel {x : Operand} (hx : x.toNat < 2) : BitVec.ofNat 32 (operandLevel x).toNat = x := by
  obtain h | h : x.toNat = 0 ∨ x.toNat = 1 := by omega
  · obtain rfl : x = 0 := BitVec.eq_of_toNat_eq h
    rfl
  · obtain rfl : x = 1 := BitVec.eq_of_toNat_eq h
    rfl

theorem ofNat_operandCount {x : Operand} (hx : x.toNat < 512) : BitVec.ofNat 32 (operandCount x) = x := by
  rw [operandCount_eq, Nat.mod_eq_of_lt hx, BitVec.ofNat_toNat, BitVec.setWidth_eq]

/-! ### FR: the bytes that follow the word -/

/-- A list of admitted length, whose length is the count of the word, is read whole. -/
theorem decodeList_append {least : Nat} {xs : List Byte} (hxs : least ≤ xs.length ∧ xs.length ≤ 256)
    (mk : List Byte → Instr) (rest : List Byte) :
    decodeList least (operandCount (BitVec.ofNat 32 xs.length)) mk (xs ++ rest) = .instr (mk xs) rest := by
  rw [operandCount_ofNat (by omega)]
  simp [decodeList, Nat.not_lt.2 hxs.1, Nat.not_lt.2 hxs.2]

/-- Only a list of admitted length is read, and the word's count is its length. -/
theorem decodeList_eq_instr {least : Nat} {x : Operand} {mk : List Byte → Instr} {tail rest : List Byte} {i : Instr}
    (hx : x.toNat < 512) (h : decodeList least (operandCount x) mk tail = .instr i rest) :
    ∃ xs : List Byte, (least ≤ xs.length ∧ xs.length ≤ 256) ∧ BitVec.ofNat 32 xs.length = x ∧ i = mk xs ∧
      tail = xs ++ rest := by
  unfold decodeList at h
  split at h
  · cases h
  next hcount =>
  split at h
  · cases h
  next henough =>
  cases h
  have hlen : (tail.take (operandCount x)).length = operandCount x := List.length_take_of_le (Nat.not_lt.1 henough)
  exact ⟨_, by omega, by rw [hlen, ofNat_operandCount hx], rfl, (List.take_append_drop _ tail).symm⟩

theorem decodeList_badCount {least n : Nat} (hcount : n < least ∨ 256 < n) (mk : List Byte → Instr)
    (tail : List Byte) : decodeList least n mk tail = .refused .badCount (tail.drop n) :=
  if_pos hcount

theorem checksumLengthOk_iff (xs : List Byte) : checksumLengthOk xs = true ↔ xs.length ≤ 256 := by
  simp [checksumLengthOk]

/-! ### The encoding is read back -/

/-- R94: the word, the bytes that follow it, then the rest of the stream. -/
theorem encode_append (i : Instr) (rest : List Byte) :
    encode i ++ rest = i.op.code :: operandBytes (operandOf i) ++ (payloadOf i ++ rest) := by
  simp [encode]

/-- The encoder lays no reserved bit: each field fits below the first one of its format (R88, R89). -/
theorem reservedBitsClear_operandOf {i : Instr} (hi : i.wellFormed = true) :
    reservedBitsClear i.op.format (operandOf i) = true := by
  have hcount {xs : List Byte} (hxs : xs.length ≤ 256) :
      reservedBitsClear .FR (BitVec.ofNat 32 xs.length) = true := by
    refine (reservedBitsClear_iff .FR _).2 (show _ < 512 from ?_)
    rw [BitVec.toNat_ofNat]
    omega
  have hbyte (b : Byte) : reservedBitsClear .B (b.setWidth 32) = true := by
    refine (reservedBitsClear_iff .B _).2 (show _ < 256 from ?_)
    rw [BitVec.toNat_setWidth]
    omega
  cases i with
  | rxLine level => cases level <;> rfl
  | fgSend b => exact hbyte b
  | txPack b => exact hbyte b
  | classify gap =>
    refine (reservedBitsClear_iff .W _).2 (show (gap.setWidth 32).toNat < 65536 from ?_)
    rw [BitVec.toNat_setWidth]
    omega
  | fgFrame payload => exact hcount ((payloadLengthOk_iff payload).1 hi).2
  | frameBuild payload => exact hcount ((payloadLengthOk_iff payload).1 hi).2
  | checksum xs => exact hcount ((checksumLengthOk_iff xs).1 hi)
  | _ => rfl

/-- Each operand is read back by its format. -/
theorem decodeOperand_operandOf {i : Instr} (hi : i.wellFormed = true) (rest : List Byte) :
    decodeOperand i.op (operandOf i) (payloadOf i ++ rest) = .instr i rest := by
  cases i with
  | rxLine level => simp [Instr.op, operandOf, payloadOf, decodeOperand, operandLevel_ofNat]
  | fgSend b => simp [Instr.op, operandOf, payloadOf, decodeOperand, operandByte_setWidth]
  | txPack b => simp [Instr.op, operandOf, payloadOf, decodeOperand, operandByte_setWidth]
  | classify gap => simp [Instr.op, operandOf, payloadOf, decodeOperand, operandWord_setWidth]
  | elapsed finish start =>
    simp [Instr.op, operandOf, payloadOf, decodeOperand, operandEnd_append, operandStart_append]
  | fgFrame payload => exact decodeList_append ((payloadLengthOk_iff payload).1 hi) .fgFrame rest
  | frameBuild payload => exact decodeList_append ((payloadLengthOk_iff payload).1 hi) .frameBuild rest
  | checksum xs => exact decodeList_append ⟨Nat.zero_le _, (checksumLengthOk_iff xs).1 hi⟩ .checksum rest
  | _ => rfl

/-- Settles O52: the opcode is in the map, the reserved bits are 0, and the operand is read back. -/
theorem decodeInvertsEncode : Obligations.DecodeInvertsEncode := by
  intro i rest hi
  rw [encode_append, decode_word, if_pos (reservedBitsClear_operandOf hi), decodeOperand_operandOf hi]

/-! ### Nothing but an encoding is read -/

/-- What a read descriptor passed: its opcode is in the map and its reserved bits are 0 (R91, R92). -/
theorem decode_eq_instr {i : Instr} {bytes rest : List Byte} (h : decode bytes = .instr i rest) :
    ∃ (op : Op) (x : Operand) (tail : List Byte), bytes = op.code :: operandBytes x ++ tail ∧
      reservedBitsClear op.format x = true ∧ decodeOperand op x tail = .instr i rest := by
  unfold decode at h
  split at h
  · cases h
  · next code b3 b2 b1 b0 tail =>
    unfold decodeWord at h
    split at h
    · cases h
    · next op hop =>
      split at h
      · next hclear =>
        obtain rfl := (Op.ofByte_eq_some_iff code op).1 hop
        exact ⟨op, _, tail, by rw [operandBytes_of_append]; rfl, hclear, h⟩
      · cases h
  · cases h

/-- The operation read from an operand is one whose encoding has that opcode, that operand and those following bytes. -/
theorem decodeOperand_eq_instr {op : Op} {x : Operand} {tail rest : List Byte} {i : Instr}
    (hclear : reservedBitsClear op.format x = true) (h : decodeOperand op x tail = .instr i rest) :
    i.wellFormed = true ∧ i.op = op ∧ operandOf i = x ∧ tail = payloadOf i ++ rest := by
  have hx := (reservedBitsClear_iff op.format x).1 hclear
  have hzero (hlt : x.toNat < 1) : 0 = x := (BitVec.eq_of_toNat_eq (Nat.lt_one_iff.1 hlt)).symm
  cases op with
  | rxLine => cases h; exact ⟨rfl, rfl, ofNat_operandLevel hx, rfl⟩
  | fgSend => cases h; exact ⟨rfl, rfl, setWidth_operandByte hx, rfl⟩
  | txPack => cases h; exact ⟨rfl, rfl, setWidth_operandByte hx, rfl⟩
  | classify => cases h; exact ⟨rfl, rfl, setWidth_operandWord hx, rfl⟩
  | elapsed => cases h; exact ⟨rfl, rfl, operandEnd_append_operandStart x, rfl⟩
  | fgFrame =>
    obtain ⟨xs, hlength, hcount, rfl, rfl⟩ := decodeList_eq_instr hx h
    exact ⟨(payloadLengthOk_iff xs).2 hlength, rfl, hcount, rfl⟩
  | frameBuild =>
    obtain ⟨xs, hlength, hcount, rfl, rfl⟩ := decodeList_eq_instr hx h
    exact ⟨(payloadLengthOk_iff xs).2 hlength, rfl, hcount, rfl⟩
  | checksum =>
    obtain ⟨xs, hlength, hcount, rfl, rfl⟩ := decodeList_eq_instr hx h
    exact ⟨(checksumLengthOk_iff xs).2 hlength.2, rfl, hcount, rfl⟩
  | _ => cases h; exact ⟨rfl, rfl, hzero hx, rfl⟩

/-- Settles O53: the parts of a read descriptor are those of the encoding. -/
theorem everyDescriptorIsTheEncodingOfItsOperation : Obligations.EveryDescriptorIsTheEncodingOfItsOperation := by
  intro i bytes rest h
  obtain ⟨op, x, tail, rfl, hclear, hoperand⟩ := decode_eq_instr h
  obtain ⟨hwf, rfl, rfl, rfl⟩ := decodeOperand_eq_instr hclear hoperand
  exact ⟨hwf, (encode_append i rest).symm⟩

/-! ### What is refused -/

/-- Whatever the count: the reserved bits are checked first (R92). -/
theorem decode_reservedOperandBits {op : Op} {x : Operand} (hset : reservedBitsClear op.format x = false)
    (rest : List Byte) :
    decode (op.code :: operandBytes x ++ rest) =
      .refused .reservedOperandBits (rest.drop (followingBytes op.format x)) := by
  rw [decode_word, hset]
  rfl

theorem decode_badCount {op : Op} {x : Operand} (hx : x.toNat < 512)
    (hcount : op = .checksum ∧ 256 < x.toNat ∨ (op = .fgFrame ∨ op = .frameBuild) ∧ (x.toNat = 0 ∨ 256 < x.toNat))
    (rest : List Byte) :
    decode (op.code :: operandBytes x ++ rest) = .refused .badCount (rest.drop x.toNat) := by
  have hn : operandCount x = x.toNat := by rw [operandCount_eq, Nat.mod_eq_of_lt hx]
  have hclear : reservedBitsClear .FR x = true := (reservedBitsClear_iff .FR x).2 hx
  rw [decode_word]
  obtain ⟨rfl, hrange⟩ | ⟨rfl | rfl, hrange⟩ := hcount
  all_goals
    rw [Op.format, if_pos hclear, decodeOperand, hn, decodeList_badCount (by omega)]

theorem Op.ofByte_eq_none {code : Byte} (h : ∀ op : Op, code ≠ op.code) : Op.ofByte code = none :=
  Option.eq_none_iff_forall_ne_some.2 fun op hop => h op ((Op.ofByte_eq_some_iff code op).1 hop)

theorem decode_illegalOpcode {code : Byte} (h : ∀ op : Op, code ≠ op.code) (b3 b2 b1 b0 : Byte) (rest : List Byte) :
    decode (code :: b3 :: b2 :: b1 :: b0 :: rest) = .refused .illegalOpcode rest := by
  rw [decode, decodeWord, Op.ofByte_eq_none h]

/-- Settles O48: reserved bits are checked before the count, and either refuses the step. -/
theorem reservedBitsThenCountAreRefused : Obligations.ReservedBitsThenCountAreRefused := by
  refine ⟨fun s op x rest hscript hset => ?_, fun s op x rest hscript hx hcount => ?_⟩
  · have hnotClear : reservedBitsClear op.format x = false := by
      rw [← Bool.not_eq_true, reservedBitsClear_iff]
      cases hformat : op.format <;> simp only [hformat] at hset ⊢ <;> omega
    exact ⟨_, step_refused (hscript ▸ decode_reservedOperandBits hnotClear rest)⟩
  · exact ⟨_, step_refused (hscript ▸ decode_badCount hx hcount rest)⟩

/-- Settles O47: the list of the statement is the opcode map. -/
theorem illegalOpcodesAreRefused : Obligations.IllegalOpcodesAreRefused := by
  intro s code b3 b2 b1 b0 rest hcode hscript
  have hmap : ∀ op : Op, code ≠ op.code := by
    rintro op rfl
    exact hcode (by cases op <;> decide)
  exact step_refused (hscript ▸ decode_illegalOpcode hmap b3 b2 b1 b0 rest)

/-! ### What a step runs, and the written descriptors -/

/-- Settles O50: the front of the script is read back, and T is admitted. -/
theorem stepRunsTheDecodedOperation : Obligations.StepRunsTheDecodedOperation := by
  intro s i rest hleast hmost hwf hscript
  exact step_instr (hscript ▸ decodeInvertsEncode i rest hwf) ((admittedPeriod_iff _).2 ⟨hleast, hmost⟩)

/-- Settles O51: each written descriptor is the encoding of its operation. -/
theorem writtenDescriptorsDecode : Obligations.WrittenDescriptorsDecode :=
  ⟨decodeInvertsEncode .tick [] rfl, decodeInvertsEncode (.rxLine true) [] rfl,
    decodeInvertsEncode (.fgSend 0x55) [] rfl, decodeInvertsEncode (.elapsed 0x0010 0xFFF0) [] rfl,
    decodeInvertsEncode (.classify 100) [] rfl, decodeInvertsEncode (.frameBuild [0x42, 0x00, 0x10, 0x00]) [] rfl⟩

/-! ### The character (R80 to R82) -/

/-- Settles O9: the data bits stand one place up, below the stop bit that `0x200` sets. -/
theorem characterHasStartDataStopLayout : Obligations.CharacterHasStartDataStopLayout := by
  intro b
  refine ⟨?_, fun j hj => ?_, ?_⟩
  · simp [packCharacter]
  · have hstop : (0x200 : Character).getLsbD (j + 1) = false := by
      interval_cases j <;> rfl
    rw [packCharacter, BitVec.getLsbD_or, hstop, Bool.or_false]
    simp [show j + 1 < 10 by omega]
  · simp [packCharacter]

end Sys2Proof
end

section
/-! The elapsed-time unit (40_elapsed.md R110, R111): ELAPSED is the difference in the counter's own width, and its
laws are read off from that. -/

namespace Sys2Proof.Machine

/-! ### ELAPSED by value -/

theorem elapsedTicks_toNat (finish start : Word) :
    (elapsedTicks finish start).toNat = (65536 - start.toNat + finish.toNat) % 65536 := by
  rw [elapsedTicks_eq_sub, BitVec.toNat_sub]

theorem elapsedTicks_toNat_of_le {finish start : Word} (h : start.toNat ≤ finish.toNat) :
    (elapsedTicks finish start).toNat = (finish.toNat - start.toNat) % 65536 := by
  rw [elapsedTicks, if_pos h, BitVec.toNat_ofNat]

theorem elapsedTicks_toNat_of_lt {finish start : Word} (h : finish.toNat < start.toNat) :
    (elapsedTicks finish start).toNat = ((0xFFFF - start.toNat) + 1 + finish.toNat) % 65536 := by
  rw [elapsedTicks, if_neg (Nat.not_le.2 h), BitVec.toNat_ofNat]

theorem elapsedTicks_self (x : Word) : elapsedTicks x x = 0 := by
  rw [elapsedTicks_eq_sub, BitVec.sub_self]
  rfl

/-- Whatever the start point, the interval comes back modulo the counter's range. -/
theorem elapsedTicks_ofNat_add (x : Word) (d : Nat) :
    elapsedTicks (BitVec.ofNat 16 (x.toNat + d)) x = BitVec.ofNat 16 d := by
  rw [elapsedTicks_eq_sub, Nat.add_comm, BitVec.ofNat_add, BitVec.ofNat_toNat, BitVec.setWidth_eq,
    BitVec.add_sub_cancel]

/-! ### Its descriptor -/

/-- Format E: each half of the operand gives its own two bytes. -/
theorem operandBytes_append_words (hi lo : Word) :
    operandBytes (hi ++ lo) =
      [hi.extractLsb' 8 8, hi.extractLsb' 0 8, lo.extractLsb' 8 8, lo.extractLsb' 0 8] := by
  have hhigh (k : Nat) : (hi ++ lo : Operand).extractLsb' (16 + k) 8 = hi.extractLsb' k 8 := by
    rw [BitVec.extractLsb'_append_eq_of_le (Nat.le_add_right 16 k), Nat.add_sub_cancel_left]
  have hlow (k : Nat) (hk : k + 8 ≤ 16) : (hi ++ lo : Operand).extractLsb' k 8 = lo.extractLsb' k 8 :=
    BitVec.extractLsb'_append_eq_of_add_le hk
  rw [operandBytes, hhigh 8, hhigh 0, hlow 8 (by decide), hlow 0 (by decide)]

theorem encode_elapsed (finish start : Word) :
    encode (.elapsed finish start) =
      [0x80, finish.extractLsb' 8 8, finish.extractLsb' 0 8, start.extractLsb' 8 8, start.extractLsb' 0 8] :=
  congrArg (fun bytes => 0x80 :: bytes ++ []) (operandBytes_append_words finish start)

/-! ### The two statements -/

/-- Settles O6: the report is `elapsedTicks`, which each branch of the formula gives by value. -/
theorem elapsedEvaluatesItsFormula : Obligations.ElapsedEvaluatesItsFormula :=
  ⟨fun finish start _ => ⟨elapsedTicks finish start, rfl, elapsedTicks_toNat_of_le, elapsedTicks_toNat_of_lt⟩,
    encode_elapsed⟩

/-- Settles O7: (a) and (b) by value, (c) to (e) from the difference in 16 bits. -/
theorem elapsedMeasuresModuloTheCounterRange : Obligations.ElapsedMeasuresModuloTheCounterRange := by
  have hmeasure (x : Word) (d : Nat) : (elapsedTicks (BitVec.ofNat 16 (x.toNat + d)) x).toNat = d % 65536 := by
    rw [elapsedTicks_ofNat_add, BitVec.toNat_ofNat]
  refine ⟨fun finish start => ?_, fun finish start => ⟨?_, fun hwrap => ?_⟩, elapsedTicks_self,
    fun x d hd => ?_, hmeasure⟩
  · have hstart := start.isLt
    rw [elapsedTicks_toNat]
    omega
  · exact Nat.le_of_lt_succ (elapsedTicks finish start).isLt
  · have hstart := start.isLt
    have hlt := BitVec.lt_def.1 hwrap
    omega
  · rw [hmeasure, Nat.mod_eq_of_lt (Nat.lt_succ_of_le hd)]

end Sys2Proof.Machine
end

section
/-! The transmit channel, operation by operation (41_uart_tx.md R120 to R127): what TICK, TX_PACK, FG_SEND, CTX_SEND and
TX_ISR do and when they have no step, with their descriptors. -/

namespace Sys2Proof.Machine

/-- Format B: the byte stands in the last place of the operand. -/
theorem operandBytes_setWidth_byte (b : Byte) : operandBytes (b.setWidth 32) = [0, 0, 0, b] := by
  have hzero (k : Nat) (hk : 8 ≤ k) : (b.setWidth 32).extractLsb' k 8 = 0 := by
    ext j hj
    simp [BitVec.getLsbD_of_ge b (k + j) (by omega)]
  rw [operandBytes, hzero 24 (by decide), hzero 16 (by decide), hzero 8 (by decide)]
  exact congrArg (fun low : Byte => [0, 0, 0, low]) (operandByte_setWidth b)

theorem packCharacter_eq_ofNat (b : Byte) : packCharacter b = BitVec.ofNat 10 (b.toNat * 2 + 512) := by
  rw [← packCharacter_toNat, BitVec.ofNat_toNat, BitVec.setWidth_eq]

/-- Settles O3: the record of `execTick_eq`, read clause by clause. -/
theorem tickCountsAndMatches : Obligations.TickCountsAndMatches := by
  refine ⟨fun s => ⟨_, execTick_eq s, ?_, ?_, ?_, ?_, ?_, ?_, ?_, rfl⟩, rfl⟩
  · exact advance_toNat s.cnt 1
  · intro hmatch
    exact ⟨if_pos hmatch, if_pos hmatch⟩
  · intro hmiss
    exact ⟨if_neg hmiss, if_neg hmiss⟩
  · intro hmatch
    exact ⟨if_pos hmatch, if_pos hmatch⟩
  · intro hmiss
    exact ⟨if_neg hmiss, if_neg hmiss⟩
  · intro hchange
    dsimp only at hchange ⊢
    split at hchange
    · next hmatch => simp only [if_pos hmatch, if_neg (Ne.symm hchange)]
    · exact absurd rfl hchange
  · intro hkeep
    dsimp only at hkeep ⊢
    split at hkeep
    · next hmatch => simp only [if_pos hmatch, if_pos hkeep.symm]
    · next hmiss => rw [if_neg hmiss]

/-- Settles O8: the result is `packCharacter`, by value. -/
theorem txPackEvaluatesTheCharacter : Obligations.TxPackEvaluatesTheCharacter :=
  ⟨fun b _ => ⟨packCharacter b, rfl, packCharacter_toNat b⟩,
    fun b => congrArg (fun bytes => 0x81 :: bytes ++ []) (operandBytes_setWidth_byte b)⟩

/-- Settles O10: the push onto the empty stack, and the fault of a preempted foreground. -/
theorem fgSendPushesOneByteContext : Obligations.FgSendPushesOneByteContext := by
  refine ⟨fun b s hempty => ?_, fun b s hctx => ?_,
    fun b => congrArg (fun bytes => 0x30 :: bytes ++ []) (operandBytes_setWidth_byte b)⟩
  · simp [exec, execFgSend, pushContext, hempty]
  · simp [exec, execFgSend, hctx]

/-- Settles O11: the send setup of the top context's first byte, with TXCCR and TXSHIFT by value. -/
theorem ctxSendSetsUpTheNextByte : Obligations.CtxSendSetsUpTheNextByte := by
  refine ⟨fun s who b later below hctx hidle => ?_, fun s hctx hbusy => ?_, fun s hempty => ?_, rfl⟩
  · simp only [exec, execCtxSend, hctx, hidle, Bool.false_eq_true, if_false]
    rw [← advance_eq_ofNat, ← packCharacter_eq_ofNat, ← nextByte_eq]
    rfl
  · obtain ⟨c, below, hctx⟩ := List.exists_cons_of_ne_nil hctx
    simp [exec, execCtxSend, hctx, hbusy]
  · simp [exec, execCtxSend, hempty]

/-- The body of an enabled TX_ISR (R127). -/
theorem execTxIsr_of_enabled {s : State} (hifg : s.txifg = true) (hie : s.txie = true) : execTxIsr s =
    if s.txbitcnt = 0 then .next { s with txifg := false, txccr := advance s.txccr (bitTicks s), txie := false }
    else .next (programBit { s with txifg := false, txccr := advance s.txccr (bitTicks s) }) :=
  if_pos ((txEnabled_iff s).2 ⟨hifg, hie⟩)

/-- Settles O12: the two branches of the body, and the fault of a handler that is not enabled. -/
theorem txIsrProgramsBitOrDisables : Obligations.TxIsrProgramsBitOrDisables := by
  refine ⟨fun s hifg hie hleft => ?_, fun s hifg hie hnone => ?_, fun s hdisabled => ?_, rfl⟩
  · rw [← advance_eq_ofNat]
    exact (execTxIsr_of_enabled hifg hie).trans (if_neg hleft)
  · rw [← advance_eq_ofNat]
    exact (execTxIsr_of_enabled hifg hie).trans (if_pos hnone)
  · exact if_neg (mt (txEnabled_iff s).1 hdisabled)

end Sys2Proof.Machine
end

section
/-! The line between characters (41_uart_tx.md R122, R126, R127, R130): every step keeps `LineOk`. -/

namespace Sys2Proof.Machine

section

/-! ### The operations the transmit channel does not see -/

variable {i : Instr} {s t : State}

/-- `t` holds the parameters, the counter and the transmit channel of `s`. -/
structure SameTransmitter (s t : State) : Prop where
  params : t.params = s.params
  cnt : t.cnt = s.cnt
  txccr : t.txccr = s.txccr
  txie : t.txie = s.txie
  txifg : t.txifg = s.txifg
  txoutmod : t.txoutmod = s.txoutmod
  txout : t.txout = s.txout
  txshift : t.txshift = s.txshift
  txbitcnt : t.txbitcnt = s.txbitcnt

theorem SameTransmitter.symm (h : SameTransmitter s t) : SameTransmitter t s :=
  ⟨h.params.symm, h.cnt.symm, h.txccr.symm, h.txie.symm, h.txifg.symm, h.txoutmod.symm, h.txout.symm,
    h.txshift.symm, h.txbitcnt.symm⟩

theorem SameTransmitter.trans {u : State} (h : SameTransmitter s t) (h' : SameTransmitter t u) : SameTransmitter s u :=
  ⟨h'.params.trans h.params, h'.cnt.trans h.cnt, h'.txccr.trans h.txccr, h'.txie.trans h.txie,
    h'.txifg.trans h.txifg, h'.txoutmod.trans h.txoutmod, h'.txout.trans h.txout, h'.txshift.trans h.txshift,
    h'.txbitcnt.trans h.txbitcnt⟩

theorem SameTransmitter.bitTicks_eq (h : SameTransmitter s t) : bitTicks t = bitTicks s := by
  rw [bitTicks, h.params, bitTicks]

/-- Every operation but the four that write the transmit channel leaves it, and the counter, as they were. -/
theorem exec_sameTransmitter (h : exec i s = .next t) (htick : i ≠ .tick) (hisr : i ≠ .txIsr) (hsend : i ≠ .ctxSend)
    (hreset : i ≠ .reset) : SameTransmitter s t := by
  obtain ⟨hparams, hcnt, hccr, hie, hifg, hmod, hout, hshift, hbits⟩ := exec_transmitter_frame h htick hisr hsend hreset
  exact ⟨hparams, hcnt, hccr, hie, hifg, hmod, hout, hshift, hbits⟩

/-! ### The four operations that write the channel, and the rest -/

theorem SameTransmitter.lineOk (h : SameTransmitter s t) (hs : LineOk s) : LineOk t :=
  hs.same h.txbitcnt h.txie h.txout h.txoutmod h.txifg h.txshift

/-- A match drives the output mode onto the line: mark while the channel is idle, and the stop bit when no bit is
left. -/
theorem execTick_lineOk (hs : LineOk s) (h : execTick s = .next t) : LineOk t := by
  rw [execTick_eq] at h
  cases h
  constructor
  case idle =>
    intro hidle
    obtain ⟨hmod, hout⟩ := hs.idle hidle
    exact ⟨hmod, by simp [hmod, hout]⟩
  case stopLast => exact hs.stopLast
  case stopProgrammed => exact hs.stopProgrammed
  case stopDriven =>
    intro hbusy hnone hifg
    dsimp only at hbusy hnone hifg ⊢
    split
    · exact hs.stopProgrammed hbusy hnone
    · next hmiss => exact hs.stopDriven hbusy hnone ((if_neg hmiss).symm.trans hifg)

/-- TX_ISR programs the stop bit last, and disables the channel only when the stop bit is on the line. -/
theorem execTxIsr_lineOk (hs : LineOk s) (h : execTxIsr s = .next t) : LineOk t := by
  obtain ⟨hifg, hbusy, ⟨hnone, rfl⟩ | ⟨hleft, rfl⟩⟩ := execTxIsr_next h
  · constructor
    case idle => exact fun _ => ⟨hs.stopProgrammed hbusy hnone, hs.stopDriven hbusy hnone hifg⟩
    all_goals simp
  · have hstop := hs.stopLast hbusy hleft
    constructor
    case idle => simp [hbusy]
    case stopLast =>
      intro _ hmore
      have hindex : 1 + ((s.txbitcnt - 1).toNat - 1) = s.txbitcnt.toNat - 1 := by bv_omega
      rwa [BitVec.getLsbD_ushiftRight, hindex]
    case stopProgrammed =>
      intro _ hlast
      have hindex : s.txbitcnt.toNat - 1 = 0 := by bv_omega
      rwa [hindex] at hstop
    case stopDriven => simp

/-- CTX_SEND arms an idle channel: ten bits are left, and the tenth is the stop bit. -/
theorem execCtxSend_lineOk (h : execCtxSend s = .next t) : LineOk t := by
  obtain ⟨who, b, later, below, -, -, rfl⟩ := execCtxSend_next h
  obtain ⟨-, -, hstop⟩ := characterHasStartDataStopLayout b
  constructor
  case stopLast => exact fun _ _ => hstop
  all_goals simp

theorem exec_lineOk (hs : LineOk s) (h : exec i s = .next t) : LineOk t := by
  by_cases htick : i = .tick
  · subst htick
    exact execTick_lineOk hs h
  by_cases hisr : i = .txIsr
  · subst hisr
    exact execTxIsr_lineOk hs h
  by_cases hsend : i = .ctxSend
  · subst hsend
    exact execCtxSend_lineOk h
  by_cases hreset : i = .reset
  · subst hreset
    obtain rfl := execReset_next h
    exact (resetBlock_resetTable s).lineOk
  exact (exec_sameTransmitter h htick hisr hsend hreset).lineOk hs

end

/-- Settles O13: every operation keeps the invariant, and a step is an operation or a refusal. -/
theorem idleLineStaysAtMark : Obligations.IdleLineStaysAtMark :=
  fun _ _ hs h => step_keeps (P := LineOk) (fun _ _ _ => exec_lineOk)
    (fun _ _ hu => hu.same rfl rfl rfl rfl rfl rfl) (fun _ _ hu => hu.same rfl rfl rfl rfl rfl rfl) hs h

end Sys2Proof.Machine
end

section
/-! A character in flight (41_uart_tx.md R122 to R129): what the channel holds `n` ticks and `m` runs of TX_ISR after
its CTX_SEND, and what one more operation makes of that. -/

namespace Sys2Proof.Machine

/-! ### The levels of a character, and the ticks at which a match comes -/

theorem characterLevel_add_two (b : Byte) {k : Nat} (hk : k < 10) :
    characterLevel b (k + 2) = (packCharacter b >>> k).getLsbD 0 := by
  rw [characterLevel, if_pos (by omega), BitVec.getLsbD_ushiftRight]
  rfl

/-- From the stop bit on the line is at mark. -/
theorem characterLevel_of_le (b : Byte) {k : Nat} (hk : 11 ≤ k) : characterLevel b k = true := by
  obtain ⟨-, -, hstop⟩ := characterHasStartDataStopLayout b
  unfold characterLevel
  split
  · next hbits =>
    obtain rfl : k = 11 := by omega
    exact hstop
  · rfl

theorem advance_eq_advance_iff (v : Word) (m n : Nat) : advance v m = advance v n ↔ m % 65536 = n % 65536 := by
  rw [← BitVec.toNat_inj, advance_toNat, advance_toNat]
  omega

/-- Within one bit period the counter's residue tells the tick that ends the period from the others. -/
theorem succ_div_eq_ite {T m n : Nat} (hpos : 0 < T) (hlt : T < 65536) (hn : n / T = m) :
    (n + 1) / T = if (n + 1) % 65536 = (m + 1) * T % 65536 then m + 1 else m := by
  have hsplit := Nat.div_add_mod n T
  have hrem := Nat.mod_lt n hpos
  rw [hn, Nat.mul_comm] at hsplit
  rw [Nat.succ_mul]
  split
  · exact Nat.div_eq_of_lt_le (by rw [Nat.succ_mul]; omega) (by rw [Nat.succ_mul, Nat.succ_mul]; omega)
  · exact Nat.div_eq_of_lt_le (by omega) (by rw [Nat.succ_mul]; omega)

theorem ticksOf_cons (i : Instr) (ops : List Instr) : ticksOf (i :: ops) = ticksOf [i] + ticksOf ops :=
  List.count_append (a := Instr.tick) (l₁ := [i]) (l₂ := ops)

theorem ticksOf_singleton_of_ne {i : Instr} (hi : i ≠ .tick) : ticksOf [i] = 0 :=
  List.count_eq_zero_of_not_mem (by simpa using Ne.symm hi)

/-! ### The channel while it is busy -/

/-- `n` ticks and `m` runs of TX_ISR after the CTX_SEND of `b` in `s`, the channel is still busy. -/
structure Sending (s : State) (b : Byte) (m n : Nat) (u : State) : Prop where
  params : u.params = s.params
  cnt : u.cnt = advance s.cnt n
  txccr : u.txccr = advance s.cnt ((m + 1) * bitTicks s)
  txie : u.txie = true
  txbitcnt : u.txbitcnt.toNat + m = 10
  txshift : u.txshift = packCharacter b >>> m
  txoutmod : u.txoutmod = characterLevel b (m + 1)

section

variable {s u v : State} {b : Byte} {i : Instr} {m n : Nat}

theorem exec_ctxSend_sending (h : exec .ctxSend s = .next u) :
    ∃ who b later below, s.ctx = ⟨who, b :: later⟩ :: below ∧ Sending s b 0 0 u ∧ u.txifg = false ∧
      u.txout = s.txout := by
  obtain ⟨who, b, later, below, hctx, -, rfl⟩ := execCtxSend_next h
  refine ⟨who, b, later, below, hctx, ?_, rfl, rfl⟩
  constructor <;> simp [advance, characterLevel]

theorem Sending.bitTicks_eq (hu : Sending s b m n u) : bitTicks u = bitTicks s := by
  rw [bitTicks, hu.params, bitTicks]

theorem Sending.cnt_succ (hu : Sending s b m n u) : u.cnt + 1 = advance s.cnt (n + 1) := by
  rw [hu.cnt, advance_add]
  rfl

theorem Sending.txccr_succ (hu : Sending s b m n u) :
    advance u.txccr (bitTicks u) = advance s.cnt ((m + 1 + 1) * bitTicks s) := by
  rw [hu.txccr, hu.bitTicks_eq, ← advance_add, ← Nat.succ_mul]

/-- The next tick matches exactly when it is, modulo the counter's range, the last of bit period `m`. -/
theorem Sending.matches_iff (hu : Sending s b m n u) :
    u.cnt + 1 = u.txccr ↔ (n + 1) % 65536 = (m + 1) * bitTicks s % 65536 := by
  rw [hu.cnt_succ, hu.txccr, advance_eq_advance_iff]

theorem Sending.congr (hu : Sending s b m n u) (h : SameTransmitter u v) : Sending s b m n v where
  params := h.params.trans hu.params
  cnt := h.cnt.trans hu.cnt
  txccr := h.txccr.trans hu.txccr
  txie := h.txie.trans hu.txie
  txbitcnt := h.txbitcnt ▸ hu.txbitcnt
  txshift := h.txshift.trans hu.txshift
  txoutmod := h.txoutmod.trans hu.txoutmod

/-- A match sets TXIFG and puts the level that was programmed last on the line. -/
theorem Sending.tick (hu : Sending s b m n u) (h : exec .tick u = .next v) :
    Sending s b m (n + 1) v ∧
    v.txifg = (decide ((n + 1) % 65536 = (m + 1) * bitTicks s % 65536) || u.txifg) ∧
    v.txout = if (n + 1) % 65536 = (m + 1) * bitTicks s % 65536 then characterLevel b (m + 1) else u.txout := by
  obtain rfl := Host.Outcome.next.inj ((execTick_eq u).symm.trans h)
  refine ⟨⟨hu.params, hu.cnt_succ, hu.txccr, hu.txie, hu.txbitcnt, hu.txshift, hu.txoutmod⟩, ?_, ?_⟩
  · simp only [hu.matches_iff]
    split <;> simp [*]
  · simp only [hu.matches_iff, hu.txoutmod]

/-- TX_ISR programs the next level, or disables the channel when it has run ten times and the stop bit is programmed. -/
theorem Sending.txIsr (hu : Sending s b m n u) (h : exec .txIsr u = .next v) :
    u.txifg = true ∧ v.txifg = false ∧ v.txout = u.txout ∧
    (Sending s b (m + 1) n v ∨ m = 10 ∧ v.txie = false ∧ v.txoutmod = true) := by
  have hbits := hu.txbitcnt
  obtain ⟨hifg, -, ⟨hnone, rfl⟩ | ⟨hleft, rfl⟩⟩ := execTxIsr_next h
  · have hm : m = 10 := by simpa [hnone] using hbits
    exact ⟨hifg, rfl, rfl, .inr ⟨hm, rfl, hu.txoutmod.trans (characterLevel_of_le b (by omega))⟩⟩
  · have hm : m < 10 := by bv_omega
    refine ⟨hifg, rfl, rfl, .inl ⟨hu.params, hu.cnt, hu.txccr_succ, hu.txie, ?_, ?_, ?_⟩⟩
    · dsimp only
      bv_omega
    · dsimp only
      rw [hu.txshift, BitVec.shiftRight_add]
    · dsimp only
      rw [hu.txshift, characterLevel_add_two b hm]

/-- One operation of a run, other than RESET, while the channel is busy: a tick; a TX_ISR that programs a bit, or
disables the channel; or an operation the channel does not see. A CTX_SEND has no step. -/
theorem Sending.exec_cases (hu : Sending s b m n u) (h : exec i u = .next v) (hreset : i ≠ .reset) :
    (i = .tick ∧ Sending s b m (n + 1) v ∧
      v.txifg = (decide ((n + 1) % 65536 = (m + 1) * bitTicks s % 65536) || u.txifg) ∧
      v.txout = if (n + 1) % 65536 = (m + 1) * bitTicks s % 65536 then characterLevel b (m + 1) else u.txout) ∨
    (i ≠ .tick ∧ Sending s b (m + 1) n v ∧ u.txifg = true ∧ v.txifg = false ∧ v.txout = u.txout) ∨
    (i ≠ .tick ∧ m = 10 ∧ u.txifg = true ∧ v.txie = false ∧ v.txoutmod = true ∧ v.txout = u.txout) ∨
    (i ≠ .tick ∧ Sending s b m n v ∧ v.txifg = u.txifg ∧ v.txout = u.txout) := by
  by_cases htick : i = .tick
  · subst htick
    exact .inl ⟨rfl, hu.tick h⟩
  by_cases hisr : i = .txIsr
  · subst hisr
    obtain ⟨hifg, hclear, hout, hv | ⟨hm, hidle, hmod⟩⟩ := hu.txIsr h
    · exact .inr (.inl ⟨htick, hv, hifg, hclear, hout⟩)
    · exact .inr (.inr (.inl ⟨htick, hm, hifg, hidle, hmod, hout⟩))
  by_cases hsend : i = .ctxSend
  · subst hsend
    obtain ⟨-, -, -, -, -, hidle, -⟩ := execCtxSend_next h
    exact absurd (hu.txie.symm.trans hidle) (by decide)
  have hsame := exec_sameTransmitter h htick hisr hsend hreset
  exact .inr (.inr (.inr ⟨htick, hu.congr hsame, hsame.txifg, hsame.txout⟩))

/-! ### The channel once it is idle, and runs -/

/-- Without a CTX_SEND or RESET an idle channel stays idle, and its line can only take the level of its output mode. -/
theorem exec_idle_frame (hidle : u.txie = false) (h : exec i u = .next v) (hsend : i ≠ .ctxSend) (hreset : i ≠ .reset) :
    v.txie = false ∧ v.txoutmod = u.txoutmod ∧ (v.txout = u.txout ∨ v.txout = u.txoutmod) := by
  by_cases htick : i = .tick
  · subst htick
    obtain rfl := Host.Outcome.next.inj ((execTick_eq u).symm.trans h)
    exact ⟨hidle, rfl, (ite_eq_or_eq _ _ _).symm⟩
  by_cases hisr : i = .txIsr
  · subst hisr
    obtain ⟨-, hbusy, -⟩ := execTxIsr_next h
    exact absurd (hbusy.symm.trans hidle) (by decide)
  have hsame := exec_sameTransmitter h htick hisr hsend hreset
  exact ⟨hsame.txie.trans hidle, hsame.txoutmod, .inl hsame.txout⟩

/-- A property of the number of ticks and the state that every operation of a run keeps holds after the run. -/
theorem runOps_keeps {P : Nat → State → Prop} {p : Instr → State → Bool} {ops : List Instr} {n : Nat} {s t : State}
    (hkeep : ∀ i ∈ ops, ∀ n u v, P n u → p i u = true → exec i u = .next v → P (n + ticksOf [i]) v)
    (hs : P n s) (hrun : runOps ops s = .next t) (hall : everyStep p ops s = true) : P (n + ticksOf ops) t := by
  induction ops generalizing n s with
  | nil =>
    cases hrun
    exact hs
  | cons i ops ih =>
    obtain ⟨u, hu, hrun⟩ := runOps_cons_next hrun
    rw [everyStep_cons hu, Bool.and_eq_true] at hall
    rw [ticksOf_cons, ← Nat.add_assoc]
    have hnext := hkeep i List.mem_cons_self n s u hs hall.1 hu
    exact ih (fun j hj => hkeep j (List.mem_cons_of_mem i hj)) hnext hrun hall.2

theorem everyStep_of_forall {p : Instr → State → Bool} (hp : ∀ i u, p i u = true) (ops : List Instr) (s : State) :
    everyStep p ops s = true := by
  induction ops generalizing s with
  | nil => rfl
  | cons i ops ih =>
    rw [everyStep, hp, Bool.true_and]
    split
    · exact ih _
    · rfl
    · rfl

end

end Sys2Proof.Machine
end

section
/-! The waveform of a character and the least time it takes (41_uart_tx.md R128, R129; 70_reset_and_hazards.md R290,
R301, R303). -/

namespace Sys2Proof.Machine

section

variable {s u v : State} {b : Byte} {i : Instr} {m n : Nat}

/-! ### The waveform, while no TX_ISR is late -/

/-- `n` ticks after the CTX_SEND of `b` in `s`, with no TX_ISR late: while the channel is busy, the matches past are
those TX_ISR has served and the one it has not, one for each bit period past, and the line is at the level of the last
of them; then the channel is idle and its line at mark. -/
def OnWaveform (s : State) (b : Byte) (n : Nat) (u : State) : Prop :=
  (∃ m, Sending s b m n u ∧ n / bitTicks s = m + u.txifg.toNat ∧ u.txout = characterLevel b (n / bitTicks s)) ∨
  (u.txie = false ∧ u.txoutmod = true ∧ u.txout = true ∧ 11 * bitTicks s ≤ n)

/-- In time, the tick that would start the next bit period does not find a match still unserved. -/
theorem Sending.not_late (hu : Sending s b m n u) (hintime : txInTime .tick u = true) (hifg : u.txifg = true) :
    (n + 1) % 65536 ≠ (m + 1 + 1) * bitTicks s % 65536 := by
  rw [ne_eq, ← advance_eq_advance_iff s.cnt, ← hu.cnt_succ, ← hu.txccr_succ]
  simpa [txInTime, hifg, hu.txie] using hintime

/-- In time, a tick ends a bit period exactly when it is the match that bit period waits for. -/
theorem Sending.succ_div (hu : Sending s b m n u) (hpos : 0 < bitTicks s) (hlt : bitTicks s < 65536)
    (hintime : txInTime .tick u = true) (hn : n / bitTicks s = m + u.txifg.toNat) :
    (n + 1) / bitTicks s =
      m + (decide ((n + 1) % 65536 = (m + 1) * bitTicks s % 65536) || u.txifg).toNat := by
  rw [succ_div_eq_ite hpos hlt hn]
  cases hwait : u.txifg with
  | false => by_cases hmatch : (n + 1) % 65536 = (m + 1) * bitTicks s % 65536 <;> simp [hmatch]
  | true => simp [hu.not_late hintime hwait]

/-- An operation in time keeps the channel on the waveform. -/
theorem exec_onWaveform (hu : OnWaveform s b n u) (hpos : 0 < bitTicks s) (hlt : bitTicks s < 65536)
    (hintime : txInTime i u = true) (h : exec i u = .next v) (hsend : i ≠ .ctxSend) (hreset : i ≠ .reset) :
    OnWaveform s b (n + ticksOf [i]) v := by
  obtain ⟨m, hbusy, hdiv, hline⟩ | ⟨hidle, hmod, hmark, hlong⟩ := hu
  · obtain ⟨rfl, hv, hifg, hout⟩ | ⟨hi, hv, hwait, hclear, hout⟩ | ⟨hi, rfl, hwait, hidle, hmod, hout⟩ |
      ⟨hi, hv, hifg, hout⟩ := hbusy.exec_cases h hreset
    · -- a tick
      have hnext := hbusy.succ_div hpos hlt hintime hdiv
      refine .inl ⟨m, hv, hifg ▸ hnext, hout.trans ?_⟩
      change _ = characterLevel b ((n + 1) / bitTicks s)
      rw [hnext]
      split
      · next hmatch => simp [hmatch]
      · next hmiss => simp [hmiss, hline, hdiv]
    · -- TX_ISR programs the next bit
      rw [ticksOf_singleton_of_ne hi, Nat.add_zero]
      exact .inl ⟨m + 1, hv, by simpa [hwait, hclear] using hdiv, hout.trans hline⟩
    · -- TX_ISR disables the channel
      rw [ticksOf_singleton_of_ne hi, Nat.add_zero]
      have hdiv : n / bitTicks s = 11 := by simpa [hwait] using hdiv
      have hmark : u.txout = true := hline.trans (characterLevel_of_le b hdiv.ge)
      exact .inr ⟨hidle, hmod, hout.trans hmark, (Nat.le_div_iff_mul_le hpos).1 hdiv.ge⟩
    · -- the channel does not see the operation
      rw [ticksOf_singleton_of_ne hi, Nat.add_zero]
      exact .inl ⟨m, hv, hifg ▸ hdiv, hout.trans hline⟩
  · obtain ⟨hidle', hmod', hout⟩ := exec_idle_frame hidle h hsend hreset
    rw [hmod, hmark, or_self] at hout
    exact .inr ⟨hidle', hmod'.trans hmod, hout, hlong.trans (Nat.le_add_right _ _)⟩

/-! ### The least time, whatever the latency of TX_ISR -/

/-- `n` ticks after the CTX_SEND of `b` in `s`: while the channel is busy, the last match that set TXIFG (or the
CTX_SEND itself) came at a tick `k`: at least one bit period for each such match, and exactly that modulo the counter's
range. Once the channel is idle, at least eleven bit periods are past. -/
def Paced (s : State) (b : Byte) (n : Nat) (u : State) : Prop :=
  (∃ m, Sending s b m n u ∧ ∃ k, k ≤ n ∧ (m + u.txifg.toNat) * bitTicks s ≤ k ∧
    k % 65536 = (m + u.txifg.toNat) * bitTicks s % 65536) ∨
  (u.txie = false ∧ 11 * bitTicks s ≤ n)

/-- The next match after one at tick `k` is a whole bit period later, or more: it comes later, and modulo the counter's
range it comes one bit period later. -/
theorem succ_mul_le_of_residue {T k : Nat} (hlt : T < 65536) (hk : k ≤ n) (hleast : m * T ≤ k)
    (hresidue : k % 65536 = m * T % 65536) (hmatch : (n + 1) % 65536 = (m + 1) * T % 65536) :
    (m + 1) * T ≤ n + 1 := by
  rw [Nat.succ_mul] at hmatch ⊢
  omega

/-- A match that sets TXIFG is a new one, and comes a bit period or more after the last; a match that finds it set
changes nothing TX_ISR sees. -/
theorem exec_paced (hu : Paced s b n u) (hlt : bitTicks s < 65536) (h : exec i u = .next v) (hsend : i ≠ .ctxSend)
    (hreset : i ≠ .reset) : Paced s b (n + ticksOf [i]) v := by
  obtain ⟨m, hbusy, k, hk, hleast, hresidue⟩ | ⟨hidle, hlong⟩ := hu
  · obtain ⟨rfl, hv, hifg, -⟩ | ⟨hi, hv, hwait, hclear, -⟩ | ⟨hi, rfl, hwait, hidle, -, -⟩ | ⟨hi, hv, hifg, -⟩ :=
      hbusy.exec_cases h hreset
    · -- a tick, whose match may be the first since TX_ISR last ran
      by_cases hfirst : u.txifg = false ∧ (n + 1) % 65536 = (m + 1) * bitTicks s % 65536
      · obtain ⟨hwait, hmatch⟩ := hfirst
        have hset : v.txifg = true := by simp [hifg, hmatch]
        rw [hwait] at hleast hresidue
        refine .inl ⟨m, hv, n + 1, le_rfl, ?_, ?_⟩ <;> rw [hset]
        · exact succ_mul_le_of_residue hlt hk hleast hresidue hmatch
        · exact hmatch
      · have hkeep : v.txifg = u.txifg := by
          rw [hifg]
          cases hwait : u.txifg with
          | false => simpa [hwait] using hfirst
          | true => exact Bool.or_true _
        exact .inl ⟨m, hv, k, hk.trans (Nat.le_succ n), hkeep ▸ hleast, hkeep ▸ hresidue⟩
    · -- TX_ISR programs the next bit
      rw [ticksOf_singleton_of_ne hi, Nat.add_zero]
      have hcount : m + u.txifg.toNat = m + 1 + v.txifg.toNat := by simp [hwait, hclear]
      exact .inl ⟨m + 1, hv, k, hk, hcount ▸ hleast, hcount ▸ hresidue⟩
    · -- TX_ISR disables the channel
      rw [ticksOf_singleton_of_ne hi, Nat.add_zero]
      rw [hwait] at hleast
      exact .inr ⟨hidle, hleast.trans hk⟩
    · -- the channel does not see the operation
      rw [ticksOf_singleton_of_ne hi, Nat.add_zero]
      exact .inl ⟨m, hv, k, hk, hifg ▸ hleast, hifg ▸ hresidue⟩
  · obtain ⟨hidle, -⟩ := exec_idle_frame hidle h hsend hreset
    exact .inr ⟨hidle, hlong.trans (Nat.le_add_right _ _)⟩

end

/-- Settles O15: the channel is on the waveform after the CTX_SEND, and every operation in time keeps it there. -/
theorem characterWaveformIsExact : Obligations.CharacterWaveformIsExact := by
  intro s t who b later below ops hperiod hctx hidle hmark hreset hsend hrun hintime
  obtain ⟨hleast, hmost⟩ := (admittedPeriod_iff _).1 hperiod
  have hpos : 0 < bitTicks s := Nat.lt_of_lt_of_le (by decide) hleast
  have hlt : bitTicks s < 65536 := Nat.lt_of_le_of_lt hmost (by decide)
  obtain ⟨u, hu, hrun⟩ := runOps_cons_next hrun
  rw [everyStep_cons hu, Bool.and_eq_true] at hintime
  obtain ⟨who', b', later', below', hctx', hstart, hclear, hout⟩ := exec_ctxSend_sending hu
  obtain ⟨⟨-, rfl, -⟩, -⟩ : (who = who' ∧ b = b' ∧ later = later') ∧ below = below' := by simpa [hctx] using hctx'
  have hinit : OnWaveform s b 0 u := .inl ⟨0, hstart, by simp [hclear], by simp [hout, hmark, characterLevel]⟩
  have hend : OnWaveform s b (0 + ticksOf ops) t := runOps_keeps
    (fun i hi n u v hu hp h => exec_onWaveform hu hpos hlt hp h (ne_of_mem_of_not_mem hi hsend)
      (ne_of_mem_of_not_mem hi hreset))
    hinit hrun hintime.2
  rw [Nat.zero_add] at hend
  obtain ⟨m, hbusy, hdiv, hline⟩ | ⟨hdone, -, hline, hlong⟩ := hend
  · refine ⟨hline, fun _ => ?_, fun hdone => absurd (hbusy.txie.symm.trans hdone) (by decide)⟩
    have hcount := hbusy.txbitcnt
    have hifg := t.txifg.toNat_le
    omega
  · have hpast : 11 ≤ ticksOf ops / bitTicks s := (Nat.le_div_iff_mul_le hpos).2 hlong
    exact ⟨hline.trans (characterLevel_of_le b hpast).symm, fun hbusy => absurd (hbusy.symm.trans hdone) (by decide),
      fun _ => hlong⟩

/-- Settles O18: the matches of a character are at least T ticks apart, and TX_ISR serves eleven of them. -/
theorem busyAtLeastElevenBitPeriods : Obligations.BusyAtLeastElevenBitPeriods := by
  intro s t ops hperiod hreset hsend hrun hdone
  obtain ⟨-, hmost⟩ := (admittedPeriod_iff _).1 hperiod
  have hlt : bitTicks s < 65536 := Nat.lt_of_le_of_lt hmost (by decide)
  obtain ⟨u, hu, hrun⟩ := runOps_cons_next hrun
  obtain ⟨-, b, -, -, -, hstart, hclear, -⟩ := exec_ctxSend_sending hu
  have hinit : Paced s b 0 u := .inl ⟨0, hstart, 0, le_rfl, by simp [hclear], by simp [hclear]⟩
  have hend : Paced s b (0 + ticksOf ops) t := runOps_keeps
    (fun i hi n u v hu _ h => exec_paced hu hlt h (ne_of_mem_of_not_mem hi hsend) (ne_of_mem_of_not_mem hi hreset))
    hinit hrun (everyStep_of_forall (p := fun _ _ => true) (fun _ _ => rfl) ops u)
  rw [Nat.zero_add] at hend
  obtain ⟨m, hbusy, -⟩ | ⟨-, hlong⟩ := hend
  · exact absurd (hbusy.txie.symm.trans hdone) (by decide)
  · exact hlong

end Sys2Proof.Machine
end

section
/-! What an operation pushes on CTX (10_state.md R45), and two consequences: a blocked send keeps its contexts
(41_uart_tx.md R124; 70_reset_and_hazards.md R294), and the transmitter does not depend on the receiver (R120). -/

namespace Sys2Proof.Machine

/-! ### The contexts an operation pushes -/

/-- The context that sends the frame of a payload; none for a payload that has no frame (43_framer.md R181). -/
def framedContexts (who : Who) (payload : List Byte) : List Context :=
  (buildFrame payload).toList.map (⟨who, ·⟩)

/-- The contexts an operation of the state `s` pushes: those of the four that send (41_uart_tx.md R123; 43_framer.md
R182; 44_capture.md R201, R216). -/
def pushedContexts (s : State) : Instr → List Context
  | .fgSend b => [⟨.FG, [b]⟩]
  | .fgFrame payload => framedContexts .FG payload
  | .torqueIsr =>
    let counted := countEdge (enterHandler .torque s)
    if counted.pulsecount = 13 then framedContexts .TQ (rotPayload s.params (rotationSample counted)) else []
  | .calIsr => framedContexts .CAL (calPayload s.params s.torqueticket)
  | _ => []

section

variable {i : Instr} {s t : State}

/-- Every operation but CTX_SEND and RESET keeps the stack below what it pushes. -/
theorem exec_ctx_eq_pushed (h : exec i s = .next t) (hsend : i ≠ .ctxSend) (hreset : i ≠ .reset) :
    t.ctx = pushedContexts s i ++ s.ctx := by
  cases i <;> simp only [exec] at h
  case tick => rw [execTick_eq] at h; cases h; rfl
  case rxLine v => rw [execRxLine_eq] at h; cases h; rfl
  case rxRead => obtain ⟨-, rfl⟩ := execRxRead_next h; rfl
  case torqueEdge => obtain rfl := execTorqueEdge_next h; rfl
  case calExpiry => obtain rfl := execCalExpiry_next h; rfl
  case modeEdge => obtain rfl := execModeEdge_next h; rfl
  case fgSend b => obtain ⟨-, rfl⟩ := execFgSend_next h; rfl
  case fgFrame p =>
    obtain ⟨-, ⟨f, hf, rfl⟩ | ⟨hf, rfl⟩⟩ := execFgFrame_next h <;> simp [pushedContexts, framedContexts, hf]
  case reset => exact absurd rfl hreset
  case txIsr => obtain ⟨-, -, ⟨-, rfl⟩ | ⟨-, rfl⟩⟩ := execTxIsr_next h <;> rfl
  case rxIsr => obtain ⟨-, -, ⟨-, rfl⟩ | ⟨-, -, rfl⟩ | ⟨-, -, rfl⟩⟩ := execRxIsr_next h <;> rfl
  case torqueIsr =>
    obtain ⟨-, -, ⟨hp, rfl⟩ | ⟨hp, ⟨f, hf, rfl⟩ | ⟨hf, rfl⟩⟩⟩ := execTorqueIsr_next h
    · simp only [pushedContexts, if_neg hp]
      simp
    all_goals
      simp only [pushedContexts, if_pos hp, framedContexts, hf]
      simp
  case calIsr =>
    obtain ⟨-, -, -, ⟨f, hf, rfl⟩ | ⟨hf, rfl⟩⟩ := execCalIsr_next h <;> simp [pushedContexts, framedContexts, hf]
  case ctxSend => exact absurd rfl hsend
  case elapsed x y => obtain rfl := execElapsed_next h; rfl
  case txPack b => obtain rfl := execTxPack_next h; rfl
  case checksum xs => obtain ⟨-, rfl⟩ | ⟨-, rfl⟩ := execChecksum_next h <;> rfl
  case frameBuild p => obtain ⟨f, -, rfl⟩ | ⟨-, rfl⟩ := execFrameBuild_next h <;> rfl
  case classify g => obtain rfl := execClassify_next h; rfl

/-! ### A blocked send -/

/-- While the channel is busy, an operation other than TX_ISR and RESET is no CTX_SEND, leaves the channel busy, and
keeps every context below what it pushes. -/
theorem exec_blocked (hbusy : s.txie = true) (h : exec i s = .next t) (hisr : i ≠ .txIsr) (hreset : i ≠ .reset) :
    i ≠ .ctxSend ∧ t.txie = true ∧ s.ctx <:+ t.ctx := by
  have hsend : i ≠ .ctxSend := by
    rintro rfl
    obtain ⟨-, -, -, -, -, hidle, -⟩ := execCtxSend_next h
    exact absurd (hbusy.symm.trans hidle) (by decide)
  obtain ⟨-, hie, -⟩ := (exec_keepsGroups h hreset).transmitter hsend hisr
  exact ⟨hsend, hie.trans hbusy, _, (exec_ctx_eq_pushed h hsend hreset).symm⟩

theorem runOps_blocked {ops : List Instr} (hbusy : s.txie = true) (hisr : .txIsr ∉ ops) (hreset : .reset ∉ ops)
    (h : runOps ops s = .next t) : t.txie = true ∧ .ctxSend ∉ ops ∧ s.ctx <:+ t.ctx := by
  induction ops generalizing s with
  | nil =>
    cases h
    exact ⟨hbusy, List.not_mem_nil, List.suffix_rfl⟩
  | cons i ops ih =>
    obtain ⟨hi, hisr⟩ := List.ne_and_not_mem_of_not_mem_cons hisr
    obtain ⟨hi', hreset⟩ := List.ne_and_not_mem_of_not_mem_cons hreset
    obtain ⟨u, hu, h⟩ := runOps_cons_next h
    obtain ⟨hfirst, hbusy, hctx⟩ := exec_blocked hbusy hu hi.symm hi'.symm
    obtain ⟨hend, hrest, hctx'⟩ := ih hbusy hisr hreset h
    exact ⟨hend, List.not_mem_cons_of_ne_of_not_mem hfirst.symm hrest, hctx.trans hctx'⟩

end

/-- Settles O17: each operation of the run leaves the send blocked. -/
theorem blockingSendNeverTimesOut : Obligations.BlockingSendNeverTimesOut := by
  intro s t ops hbusy hisr hreset h
  obtain ⟨hend, hsend, above, habove⟩ := runOps_blocked hbusy hisr hreset h
  exact ⟨hend, hsend, above, habove.symm⟩

/-! ### Independence of the receiver -/

section

variable {i : Instr} {s s' t t' : State}

/-- `s'` holds what `s` holds of all that decides what the transmitter does: the transmit channel, CTX, and what the
frames of the two handlers are made of. The receiver's registers are not among it. -/
structure SameSending (s s' : State) : Prop extends SameTransmitter s s' where
  ctx : s'.ctx = s.ctx
  pulsecount : s'.pulsecount = s.pulsecount
  torqueticket : s'.torqueticket = s.torqueticket
  lastedge : s'.lastedge = s.lastedge
  lasttx : s'.lasttx = s.lasttx
  rotcnt : s'.rotcnt = s.rotcnt

theorem SameSending.pushedContexts_eq (hs : SameSending s s') (i : Instr) :
    pushedContexts s' i = pushedContexts s i := by
  cases i
  case torqueIsr =>
    simp [pushedContexts, rotationSample, countEdge_pulsecount, countEdge_torqueticket, hs.params, hs.cnt,
      hs.pulsecount, hs.torqueticket, hs.lastedge, hs.lasttx, hs.rotcnt]
  case calIsr => simp only [pushedContexts, hs.params, hs.torqueticket]
  all_goals rfl

theorem execTick_keeps_sameTransmitter (hs : SameTransmitter s s') (h : execTick s = .next t)
    (h' : execTick s' = .next t') : SameTransmitter t t' := by
  rw [execTick_eq] at h h'
  cases h
  cases h'
  constructor <;> simp only [hs.params, hs.cnt, hs.txccr, hs.txie, hs.txifg, hs.txoutmod, hs.txout, hs.txshift,
    hs.txbitcnt]

theorem execTxIsr_keeps_sameTransmitter (hs : SameTransmitter s s') (h : execTxIsr s = .next t)
    (h' : execTxIsr s' = .next t') : SameTransmitter t t' := by
  have hbits := hs.txbitcnt
  obtain ⟨-, -, ⟨hnone, rfl⟩ | ⟨hleft, rfl⟩⟩ := execTxIsr_next h <;>
    obtain ⟨-, -, ⟨hnone', rfl⟩ | ⟨hleft', rfl⟩⟩ := execTxIsr_next h'
  · constructor <;> simp only [hs.params, hs.cnt, hs.txccr, hs.txoutmod, hs.txout, hs.txshift, hs.txbitcnt,
      hs.bitTicks_eq]
  · exact absurd (hbits.trans hnone) hleft'
  · exact absurd (hbits.symm.trans hnone') hleft
  · constructor <;> simp only [hs.params, hs.cnt, hs.txccr, hs.txie, hs.txout, hs.txshift, hs.txbitcnt,
      hs.bitTicks_eq]

theorem execCtxSend_of_sameSending (hs : SameSending s s') (h : execCtxSend s = .next t)
    (h' : execCtxSend s' = .next t') : SameTransmitter t t' ∧ t'.ctx = t.ctx := by
  obtain ⟨who, b, later, below, hctx, -, rfl⟩ := execCtxSend_next h
  obtain ⟨who', b', later', below', hctx', -, rfl⟩ := execCtxSend_next h'
  obtain ⟨⟨rfl, rfl, rfl⟩, rfl⟩ : (who' = who ∧ b' = b ∧ later' = later) ∧ below' = below := by
    simpa [hctx, hctx'] using hs.ctx
  refine ⟨?_, rfl⟩
  constructor <;> simp [hs.params, hs.cnt, hs.txout, hs.bitTicks_eq]

/-- The same operation, taken in two states that agree on what decides, leaves the transmitter the same: it pushes
the same contexts, and each operation that writes the channel writes it from what they agree on. -/
theorem exec_of_sameSending (hs : SameSending s s') (h : exec i s = .next t) (h' : exec i s' = .next t') :
    SameTransmitter t t' ∧ t'.ctx = t.ctx := by
  by_cases hsend : i = .ctxSend
  · subst hsend
    exact execCtxSend_of_sameSending hs h h'
  by_cases hreset : i = .reset
  · subst hreset
    obtain rfl := execReset_next h
    obtain rfl := execReset_next h'
    exact ⟨⟨hs.params, rfl, rfl, rfl, rfl, rfl, rfl, rfl, rfl⟩, rfl⟩
  have hctx : t'.ctx = t.ctx := by
    rw [exec_ctx_eq_pushed h' hsend hreset, exec_ctx_eq_pushed h hsend hreset, hs.pushedContexts_eq, hs.ctx]
  refine ⟨?_, hctx⟩
  by_cases htick : i = .tick
  · subst htick
    exact execTick_keeps_sameTransmitter hs.toSameTransmitter h h'
  by_cases hisr : i = .txIsr
  · subst hisr
    exact execTxIsr_keeps_sameTransmitter hs.toSameTransmitter h h'
  exact ((exec_sameTransmitter h htick hisr hsend hreset).symm.trans hs.toSameTransmitter).trans
    (exec_sameTransmitter h' htick hisr hsend hreset)

end

/-- Settles O24: two states that differ only in the receiver's registers agree on all that decides what the transmitter
does. -/
theorem transmitterIsIndependentOfTheReceiver : Obligations.TransmitterIsIndependentOfTheReceiver := by
  intro i s s' t t' hs h h'
  have hsame : SameSending s s' := by
    rw [hs]
    exact ⟨⟨rfl, rfl, rfl, rfl, rfl, rfl, rfl, rfl, rfl⟩, rfl, rfl, rfl, rfl, rfl, rfl⟩
  obtain ⟨ht, hctx⟩ := exec_of_sameSending hsame h h'
  exact ⟨ht.cnt, ht.txccr, ht.txie, ht.txifg, ht.txoutmod, ht.txout, ht.txshift, ht.txbitcnt, hctx⟩

end Sys2Proof.Machine
end

section
/-! The receive channel, operation by operation (42_uart_rx.md R150, R153, R154): what RX_LINE, RX_ISR and RX_READ do
and when they have no step, with their descriptors. -/

namespace Sys2Proof.Machine

theorem shiftIn_eq_ofNat (reg : Byte) (sample : Bool) :
    shiftIn reg sample = BitVec.ofNat 8 (reg.toNat / 2 + 128 * sample.toNat) := by
  rw [← shiftIn_toNat, BitVec.ofNat_toNat, BitVec.setWidth_eq]

/-- Only the last of the samples takes RXBITCNT to 0. -/
theorem rxbitcnt_sub_one_eq_zero_iff (n : BitVec 4) : n - 1 = 0 ↔ n = 1 := sub_eq_zero

section

variable {s : State}

/-- The body of an enabled RX_ISR (R153) on a captured edge. -/
theorem execRxIsr_of_capture (hifg : s.rxifg = true) (hie : s.rxie = true) (hcap : s.rxcap = true) :
    execRxIsr s = .next (startReception { s with rxifg := false, rxccr := advance s.rxccr (bitTicks s) }) :=
  (if_pos ((rxEnabled_iff s).2 ⟨hifg, hie⟩)).trans (if_pos hcap)

/-- The body of an enabled RX_ISR (R153) on a sample: the one that takes RXBITCNT to 0 completes the byte. -/
theorem execRxIsr_of_sample (hifg : s.rxifg = true) (hie : s.rxie = true) (hcap : s.rxcap = false) : execRxIsr s =
    if s.rxbitcnt - 1 = 0 then
      .next (storeByte (takeSample { s with rxifg := false, rxccr := advance s.rxccr (bitTicks s) }))
    else .next (takeSample { s with rxifg := false, rxccr := advance s.rxccr (bitTicks s) }) :=
  (if_pos ((rxEnabled_iff s).2 ⟨hifg, hie⟩)).trans (if_neg (ne_true_of_eq_false hcap))

end

/-- Settles O19: the record of `execRxLine_eq`, with and without the capture. -/
theorem rxLineCapturesFallingEdges : Obligations.RxLineCapturesFallingEdges := by
  refine ⟨fun v s hfall => ?_, fun v s hkeep => ?_, rfl, rfl⟩
  · exact (execRxLine_eq v s).trans (by rw [if_pos hfall, if_pos hfall])
  · exact (execRxLine_eq v s).trans (by rw [if_neg hkeep, if_neg hkeep])

/-- Settles O20: the three ways through the body, and the fault of a handler that is not enabled. -/
theorem rxIsrStartsSamplesAndStores : Obligations.RxIsrStartsSamplesAndStores := by
  refine ⟨fun s hifg hie hcap => ?_, fun s hifg hie hcap hmore => ?_, fun s hifg hie hcap hlast => ?_,
    fun s hdisabled => ?_, rfl⟩
  · rw [Nat.add_assoc, ← advance_eq_ofNat, advance_add]
    exact execRxIsr_of_capture hifg hie hcap
  · rw [← advance_eq_ofNat, ← shiftIn_eq_ofNat]
    exact (execRxIsr_of_sample hifg hie hcap).trans (if_neg (mt (rxbitcnt_sub_one_eq_zero_iff _).1 hmore))
  · have hnone : s.rxbitcnt - 1 = 0 := (rxbitcnt_sub_one_eq_zero_iff _).2 hlast
    rw [← advance_eq_ofNat, ← shiftIn_eq_ofNat, ← hnone]
    exact (execRxIsr_of_sample hifg hie hcap).trans (if_pos hnone)
  · exact if_neg (mt (rxEnabled_iff s).1 hdisabled)

/-- Settles O21: the report and the clearing on an empty stack, and the fault of a preempted foreground. -/
theorem rxReadReportsAndClears : Obligations.RxReadReportsAndClears := by
  refine ⟨fun s hempty => ?_, fun s hctx => ?_, rfl⟩
  · simp [exec, execRxRead, observe, hempty]
  · simp [exec, execRxRead, hctx]

end Sys2Proof.Machine
end

section
/-! A character looped back (42_uart_rx.md R152, R153, R157; 70_reset_and_hazards.md R291, R301): what the receiver
holds `n` ticks after the CTX_SEND, while RXIN follows TXOUT and no handler is late. -/

namespace Sys2Proof.Machine

section

variable {s u v : State} {b : Byte} {i : Instr} {j n : Nat}

/-! ### The levels on the wire -/

theorem characterLevel_of_lt_two (b : Byte) {k : Nat} (hk : k < 2) : characterLevel b k = true := if_neg (by omega)

theorem characterLevel_start (b : Byte) : characterLevel b 2 = false :=
  (characterHasStartDataStopLayout b).1

theorem characterLevel_data (b : Byte) (hj : j < 8) : characterLevel b (j + 3) = b.getLsbD j := by
  obtain ⟨-, hdata, -⟩ := characterHasStartDataStopLayout b
  rw [characterLevel, if_pos (by omega)]
  exact hdata j hj

/-- On the waveform the line is at the level of the bit period past, also once the channel is idle. -/
theorem OnWaveform.txout_eq (hu : OnWaveform s b n u) (hpos : 0 < bitTicks s) :
    u.txout = characterLevel b (n / bitTicks s) := by
  obtain ⟨m, -, -, hline⟩ | ⟨-, -, hmark, hlong⟩ := hu
  · exact hline
  · exact hmark.trans (characterLevel_of_le b ((Nat.le_div_iff_mul_le hpos).2 hlong)).symm

/-- No falling edge is left to be driven onto the receive line: it is at space, or the transmit line is at mark. -/
def NoFall (s : State) (b : Byte) (n : Nat) (u : State) : Prop :=
  u.rxin = true → characterLevel b (n / bitTicks s) = true

/-- After the last data bit the line can only rise. -/
theorem characterLevel_succ_div (hpos : 0 < bitTicks s) (hn : 10 * bitTicks s ≤ n)
    (hmark : characterLevel b (n / bitTicks s) = true) : characterLevel b ((n + 1) / bitTicks s) = true := by
  have hten : 10 ≤ n / bitTicks s := (Nat.le_div_iff_mul_le hpos).2 hn
  rw [Nat.succ_div]
  split
  · exact characterLevel_of_le b (by omega)
  · exact hmark

/-- After the start bit, and within the first data bit, the line can only rise. -/
theorem characterLevel_succ_div_of_start (hpos : 0 < bitTicks s) (hlow : 2 * bitTicks s ≤ n)
    (hup : n + 1 < 4 * bitTicks s) (hmark : characterLevel b (n / bitTicks s) = true) :
    characterLevel b ((n + 1) / bitTicks s) = true := by
  have htwo : 2 ≤ n / bitTicks s := (Nat.le_div_iff_mul_le hpos).2 hlow
  have hfour : (n + 1) / bitTicks s < 4 := (Nat.div_lt_iff_lt_mul hpos).2 hup
  have hgrow : n / bitTicks s ≤ (n + 1) / bitTicks s := Nat.div_le_div_right (Nat.le_succ n)
  have hdata : n / bitTicks s ≠ 2 := fun hstart => by simp [hstart, characterLevel_start] at hmark
  rwa [show (n + 1) / bitTicks s = n / bitTicks s by omega]

/-! ### Time -/

/-- `n` ticks after `s`, under the parameters of `s`. -/
structure Clocked (s : State) (n : Nat) (u : State) : Prop where
  params : u.params = s.params
  cnt : u.cnt = advance s.cnt n

theorem Clocked.bitTicks_eq (hu : Clocked s n u) : bitTicks u = bitTicks s := by
  rw [bitTicks, hu.params, bitTicks]

theorem Clocked.halfTicks_eq (hu : Clocked s n u) : halfTicks u = halfTicks s := by
  rw [halfTicks, hu.bitTicks_eq, halfTicks]

theorem exec_clocked (hu : Clocked s n u) (h : exec i u = .next v) (hreset : i ≠ .reset) :
    Clocked s (n + ticksOf [i]) v := by
  refine ⟨(exec_extends h).params.trans hu.params, ?_⟩
  by_cases htick : i = .tick
  · subst htick
    obtain rfl := Host.Outcome.next.inj ((execTick_eq u).symm.trans h)
    exact (congrArg (· + 1) hu.cnt).trans (advance_add s.cnt n 1).symm
  · rw [ticksOf_singleton_of_ne htick, Nat.add_zero]
    exact (onlyTickAndResetWriteTheCounter i u v h htick hreset).trans hu.cnt

/-- Within the counter's range of tick `p`, the next tick brings CNT to the value of tick `p` only when it is tick
`p`. -/
theorem Clocked.cnt_succ_eq_iff (hu : Clocked s n u) {p : Nat} (hlow : p ≤ n + 65536) (hup : n < p + 65535) :
    u.cnt + 1 = advance s.cnt p ↔ n + 1 = p := by
  have hnext : u.cnt + 1 = advance s.cnt (n + 1) := (congrArg (· + 1) hu.cnt).trans (advance_add s.cnt n 1).symm
  rw [hnext, advance_eq_advance_iff]
  omega

/-- The tick of the sample of data bit `j` (R152): one and a half bit periods after the start edge, and one bit period
for each bit before it. -/
def samplePoint (s : State) (j : Nat) : Nat := (j + 3) * bitTicks s + halfTicks s

theorem samplePoint_zero (s : State) : samplePoint s 0 = 2 * bitTicks s + (bitTicks s + halfTicks s) := by
  rw [samplePoint]
  omega

theorem samplePoint_succ (s : State) (j : Nat) : samplePoint s (j + 1) = samplePoint s j + bitTicks s := by
  rw [samplePoint, samplePoint, Nat.succ_add, Nat.succ_mul]
  omega

/-- A sample is taken in the middle of its bit: the line stands at the bit's level before the tick of the sample. -/
theorem div_bitTicks_of_samplePoint (hleast : 2 ≤ bitTicks s) (hn : n + 1 = samplePoint s j) :
    n / bitTicks s = j + 3 := by
  rw [samplePoint, halfTicks] at hn
  exact Nat.div_eq_of_lt_le (by omega) (by rw [Nat.succ_mul]; omega)

/-! ### The phases of a reception -/

/-- The first `j` data bits of a byte, in the order they are received. -/
def firstBits (b : Byte) (j : Nat) : List Bool := (List.range j).map b.getLsbD

theorem firstBits_succ (b : Byte) (j : Nat) : firstBits b (j + 1) = firstBits b j ++ [b.getLsbD j] := by
  simp [firstBits, List.range_succ]

theorem foldl_shiftIn_firstBits (old b : Byte) : (firstBits b 8).foldl shiftIn old = b := by
  refine BitVec.eq_of_getLsbD_eq fun k hk => ?_
  rw [eightSamplesReplaceTheShiftRegister old (firstBits b 8) (by simp [firstBits]) k hk]
  simp [firstBits, hk]

/-- RX_ISR has shifted in the first `j` data bits, and the channel is set to sample the next one. -/
structure Sampling (s : State) (b : Byte) (j : Nat) (u : State) : Prop where
  more : j < 8
  rxcap : u.rxcap = false
  rxbitcnt : u.rxbitcnt.toNat + j = 8
  rxccr : u.rxccr = advance s.cnt (samplePoint s j)
  rxshift : ∃ old, u.rxshift = (firstBits b j).foldl shiftIn old

/-- What the receiver holds `n` ticks after the CTX_SEND of `b` in `s`. -/
inductive Reception (s : State) (b : Byte) (n : Nat) (u : State) : Prop
  /-- The start edge is not on the receive line yet. -/
  | waiting (hcap : u.rxcap = true) (hifg : u.rxifg = false) (hmark : u.rxin = true) (hup : n ≤ 2 * bitTicks s)
  /-- The start edge is captured, and RX_ISR has not served it. -/
  | captured (hcap : u.rxcap = true) (hifg : u.rxifg = true) (hccr : u.rxccr = advance s.cnt (2 * bitTicks s))
      (hfall : NoFall s b n u) (hlow : 2 * bitTicks s ≤ n) (hup : n < samplePoint s 0)
  /-- Data bit `j` is not sampled yet. -/
  | sampling (j : Nat) (hbits : Sampling s b j u) (hifg : u.rxifg = false) (hlow : (j + 2) * bitTicks s ≤ n)
      (hup : n < samplePoint s j)
  /-- Data bit `j` is sampled, and RX_ISR has not served it. -/
  | sampled (j : Nat) (hbits : Sampling s b j u) (hifg : u.rxifg = true) (hscci : u.rxscci = b.getLsbD j)
      (hlow : samplePoint s j ≤ n) (hup : n < samplePoint s (j + 1))
  /-- The byte is stored. -/
  | received (hcap : u.rxcap = true) (hifg : u.rxifg = false) (hbuf : u.rxbuf = b) (hfull : u.rxfull = true)
      (hfall : NoFall s b n u) (hlow : 10 * bitTicks s ≤ n)

/-- `v` holds the receive channel of `u`. -/
structure SameReceiver (u v : State) : Prop where
  rxccr : v.rxccr = u.rxccr
  rxifg : v.rxifg = u.rxifg
  rxcap : v.rxcap = u.rxcap
  rxscci : v.rxscci = u.rxscci
  rxin : v.rxin = u.rxin
  rxshift : v.rxshift = u.rxshift
  rxbitcnt : v.rxbitcnt = u.rxbitcnt
  rxbuf : v.rxbuf = u.rxbuf
  rxfull : v.rxfull = u.rxfull

/-- Every operation but the five that write the receive channel leaves it as it was. -/
theorem exec_sameReceiver (h : exec i u = .next v) (htick : i ≠ .tick) (hisr : i ≠ .rxIsr)
    (hline : ∀ level, i ≠ .rxLine level) (hreset : i ≠ .reset) (hread : i ≠ .rxRead) : SameReceiver u v := by
  obtain ⟨hccr, hifg, hcap, hscci, hin, hshift, hbits, hbuf, hfull, -⟩ :=
    exec_receiver_frame h htick hisr hline hreset hread
  exact ⟨hccr, hifg, hcap, hscci, hin, hshift, hbits, hbuf, hfull⟩

theorem NoFall.congr (hu : NoFall s b n u) (h : v.rxin = u.rxin) : NoFall s b n v := fun hmark =>
  hu (h ▸ hmark)

theorem Sampling.congr (hu : Sampling s b j u) (h : SameReceiver u v) : Sampling s b j v where
  more := hu.more
  rxcap := h.rxcap.trans hu.rxcap
  rxbitcnt := h.rxbitcnt ▸ hu.rxbitcnt
  rxccr := h.rxccr.trans hu.rxccr
  rxshift := h.rxshift ▸ hu.rxshift

theorem Reception.congr (hu : Reception s b n u) (h : SameReceiver u v) : Reception s b n v := by
  cases hu with
  | waiting hcap hifg hmark hup => exact .waiting (h.rxcap.trans hcap) (h.rxifg.trans hifg) (h.rxin.trans hmark) hup
  | captured hcap hifg hccr hfall hlow hup =>
    exact .captured (h.rxcap.trans hcap) (h.rxifg.trans hifg) (h.rxccr.trans hccr) (hfall.congr h.rxin) hlow hup
  | sampling j hbits hifg hlow hup => exact .sampling j (hbits.congr h) (h.rxifg.trans hifg) hlow hup
  | sampled j hbits hifg hscci hlow hup =>
    exact .sampled j (hbits.congr h) (h.rxifg.trans hifg) (h.rxscci.trans hscci) hlow hup
  | received hcap hifg hbuf hfull hfall hlow =>
    exact .received (h.rxcap.trans hcap) (h.rxifg.trans hifg) (h.rxbuf.trans hbuf) (h.rxfull.trans hfull)
      (hfall.congr h.rxin) hlow

/-! ### The operations that write the receive channel -/

/-- In time, a tick does not reach the point at which RX_ISR is needed next. -/
theorem Clocked.not_late (hu : Clocked s n u) (hintime : rxInTime .tick u = true) (hifg : u.rxifg = true) :
    u.cnt + 1 ≠ advance u.rxccr (if u.rxcap = true then bitTicks s + halfTicks s else bitTicks s) := by
  simpa [rxInTime, hifg, hu.bitTicks_eq, hu.halfTicks_eq] using hintime

/-- In capture mode the receive channel does not see a tick. -/
theorem exec_tick_sameReceiver (hcap : u.rxcap = true) (h : exec .tick u = .next v) : SameReceiver u v := by
  obtain rfl := Host.Outcome.next.inj ((execTick_eq u).symm.trans h)
  constructor <;> simp [hcap]

/-- In compare mode a tick latches the wire and sets RXIFG exactly at the sample point. -/
theorem Sampling.tick (hu : Sampling s b j u) (hclock : Clocked s n u) (hlow : samplePoint s j ≤ n + 65536)
    (hup : n < samplePoint s j + 65535) (h : exec .tick u = .next v) : Sampling s b j v ∧
      (n + 1 = samplePoint s j → v.rxifg = true ∧ v.rxscci = u.rxin) ∧
      (n + 1 ≠ samplePoint s j → v.rxifg = u.rxifg ∧ v.rxscci = u.rxscci) := by
  obtain rfl := Host.Outcome.next.inj ((execTick_eq u).symm.trans h)
  have hmatch : (u.rxcap = false ∧ u.cnt + 1 = u.rxccr) ↔ n + 1 = samplePoint s j := by
    rw [hu.rxccr, hclock.cnt_succ_eq_iff hlow hup, hu.rxcap, eq_self, true_and]
  refine ⟨⟨hu.more, hu.rxcap, hu.rxbitcnt, hu.rxccr, hu.rxshift⟩, fun hnow => ?_, fun hmiss => ?_⟩
  · exact ⟨if_pos (hmatch.2 hnow), if_pos (hmatch.2 hnow)⟩
  · exact ⟨if_neg (mt hmatch.1 hmiss), if_neg (mt hmatch.1 hmiss)⟩

theorem Sampling.rxLine {level : Bool} (hu : Sampling s b j u) (h : exec (.rxLine level) u = .next v) :
    Sampling s b j v := by
  obtain rfl := Host.Outcome.next.inj ((execRxLine_eq level u).symm.trans h)
  exact ⟨hu.more, hu.rxcap, hu.rxbitcnt, (if_neg (by simp [hu.rxcap])).trans hu.rxccr, hu.rxshift⟩

/-- A tick that is in time takes a sample exactly at its sample point, when the wire holds the level of its bit. -/
theorem Reception.tick (hr : Reception s b n u) (hu : Clocked s n u) (hleast : 2 ≤ bitTicks s)
    (hmost : bitTicks s ≤ 43690) (hwire : u.rxin = characterLevel b (n / bitTicks s))
    (hintime : rxInTime .tick u = true) (h : exec .tick u = .next v) : Reception s b (n + 1) v := by
  have hpos : 0 < bitTicks s := by omega
  have hhalf : halfTicks s = bitTicks s / 2 := rfl
  cases hr with
  | waiting hcap hifg hmark hup =>
    have hsame := exec_tick_sameReceiver hcap h
    have hne : n ≠ 2 * bitTicks s := by
      rintro rfl
      rw [Nat.mul_div_cancel _ hpos, characterLevel_start, hmark] at hwire
      cases hwire
    exact .waiting (hsame.rxcap.trans hcap) (hsame.rxifg.trans hifg) (hsame.rxin.trans hmark) (by omega)
  | captured hcap hifg hccr _ hlow hup =>
    have hsame := exec_tick_sameReceiver hcap h
    have hzero := samplePoint_zero s
    have hlate := hu.not_late hintime hifg
    rw [if_pos hcap, hccr, ← advance_add, ← hzero, ne_eq, hu.cnt_succ_eq_iff (by omega) (by omega)] at hlate
    refine .captured (hsame.rxcap.trans hcap) (hsame.rxifg.trans hifg) (hsame.rxccr.trans hccr) (fun hmark => ?_)
      (by omega) (by omega)
    rw [hsame.rxin, hwire] at hmark
    exact characterLevel_succ_div_of_start hpos hlow (by omega) hmark
  | sampling j hbits hifg hlow hup =>
    have hpoint : samplePoint s j = (j + 2) * bitTicks s + (bitTicks s + halfTicks s) := by
      rw [samplePoint, Nat.succ_mul, Nat.add_assoc]
    have hsucc := samplePoint_succ s j
    obtain ⟨hnext, hmatch, hmiss⟩ := hbits.tick hu (by omega) (by omega) h
    by_cases hnow : n + 1 = samplePoint s j
    · obtain ⟨hset, hlatch⟩ := hmatch hnow
      have hlevel : u.rxin = b.getLsbD j := by
        rw [hwire, div_bitTicks_of_samplePoint hleast hnow, characterLevel_data b hbits.more]
      exact .sampled j hnext hset (hlatch.trans hlevel) hnow.ge (by omega)
    · obtain ⟨hkeep, -⟩ := hmiss hnow
      exact .sampling j hnext (hkeep.trans hifg) (by omega) (by omega)
  | sampled j hbits hifg hscci hlow hup =>
    have hsucc := samplePoint_succ s j
    have hlate := hu.not_late hintime hifg
    rw [if_neg (ne_true_of_eq_false hbits.rxcap), hbits.rxccr, ← advance_add, ← hsucc, ne_eq,
      hu.cnt_succ_eq_iff (by omega) (by omega)] at hlate
    obtain ⟨hnext, -, hmiss⟩ := hbits.tick hu (by omega) (by omega) h
    obtain ⟨hkeep, hlatched⟩ := hmiss (by omega)
    exact .sampled j hnext (hkeep.trans hifg) (hlatched.trans hscci) (by omega) (by omega)
  | received hcap hifg hbuf hfull _ hlow =>
    have hsame := exec_tick_sameReceiver hcap h
    refine .received (hsame.rxcap.trans hcap) (hsame.rxifg.trans hifg) (hsame.rxbuf.trans hbuf)
      (hsame.rxfull.trans hfull) (fun hmark => ?_) (by omega)
    rw [hsame.rxin, hwire] at hmark
    exact characterLevel_succ_div hpos hlow hmark

/-- RX_LINE captures an edge only while the receiver waits, at the tick of the start edge: in the other phases the
channel is in compare mode or no falling edge is left. -/
theorem Reception.rxLine (hr : Reception s b n u) (hu : Clocked s n u) (hleast : 2 ≤ bitTicks s)
    (h : exec (.rxLine (characterLevel b (n / bitTicks s))) u = .next v) : Reception s b n v := by
  have hpos : 0 < bitTicks s := by omega
  have hzero := samplePoint_zero s
  have hkeep (j : Nat) (hbits : Sampling s b j u) : Sampling s b j v := hbits.rxLine h
  obtain ⟨hcapture, hdrive, -, -⟩ := rxLineCapturesFallingEdges
  by_cases hedge : u.rxcap = true ∧ u.rxin = true ∧ characterLevel b (n / bitTicks s) = false
  · obtain rfl := Host.Outcome.next.inj ((hcapture _ u hedge).symm.trans h)
    obtain ⟨hcap, hmark, hspace⟩ := hedge
    cases hr with
    | waiting _ _ _ hup =>
      have hstart : ¬n / bitTicks s < 2 := fun hearly => by simp [characterLevel_of_lt_two b hearly] at hspace
      obtain rfl : n = 2 * bitTicks s := hup.antisymm (by rwa [Nat.div_lt_iff_lt_mul hpos, not_lt] at hstart)
      exact .captured hcap rfl hu.cnt id le_rfl (by omega)
    | captured _ _ _ hfall => simp [hfall hmark] at hspace
    | sampling _ hbits => simp [hbits.rxcap] at hcap
    | sampled _ hbits => simp [hbits.rxcap] at hcap
    | received _ _ _ _ hfall => simp [hfall hmark] at hspace
  · obtain rfl := Host.Outcome.next.inj ((hdrive _ u hedge).symm.trans h)
    cases hr with
    | waiting hcap hifg hmark hup => exact .waiting hcap hifg (by simpa [hcap, hmark] using hedge) hup
    | captured hcap hifg hccr _ hlow hup => exact .captured hcap hifg hccr id hlow hup
    | sampling j hbits hifg hlow hup => exact .sampling j (hkeep j hbits) hifg hlow hup
    | sampled j hbits hifg hscci hlow hup => exact .sampled j (hkeep j hbits) hifg hscci hlow hup
    | received hcap hifg hbuf hfull _ hlow => exact .received hcap hifg hbuf hfull id hlow

/-- RX_ISR turns a captured edge into the wait for the first sample, and a sample into the wait for the next one or into
the byte. -/
theorem Reception.rxIsr (hr : Reception s b n u) (hu : Clocked s n u) (hfall : 10 * bitTicks s < n → NoFall s b n u)
    (hleast : 2 ≤ bitTicks s) (h : exec .rxIsr u = .next v) : Reception s b n v := by
  have hhalf : halfTicks s = bitTicks s / 2 := rfl
  obtain ⟨hset, -, hcases⟩ := execRxIsr_next h
  cases hr with
  | waiting _ hifg => simp [hifg] at hset
  | captured hcap _ hccr _ hlow hup =>
    have hfirst : advance (advance u.rxccr (bitTicks u)) (halfTicks u) = advance s.cnt (samplePoint s 0) := by
      rw [hccr, hu.bitTicks_eq, hu.halfTicks_eq, ← advance_add, ← advance_add, samplePoint_zero]
    obtain ⟨-, rfl⟩ | ⟨hcap', -⟩ | ⟨hcap', -⟩ := hcases
    · exact .sampling 0 ⟨by decide, rfl, rfl, hfirst, u.rxshift, rfl⟩ rfl (by omega) hup
    all_goals simp [hcap] at hcap'
  | sampling _ _ hifg => simp [hifg] at hset
  | sampled j hbits _ hscci hlow hup =>
    have hcount := hbits.rxbitcnt
    have hccr : advance u.rxccr (bitTicks u) = advance s.cnt (samplePoint s (j + 1)) := by
      rw [hbits.rxccr, hu.bitTicks_eq, ← advance_add, samplePoint_succ]
    obtain ⟨old, hold⟩ := hbits.rxshift
    have hshift : shiftIn u.rxshift u.rxscci = (firstBits b (j + 1)).foldl shiftIn old := by
      rw [hold, hscci, firstBits_succ, List.foldl_append]
      rfl
    obtain ⟨hcap, -⟩ | ⟨hcap, hmore, rfl⟩ | ⟨hcap, hlast, rfl⟩ := hcases
    · simp [hbits.rxcap] at hcap
    · have hnext : j + 1 < 8 := by
        have hj := hbits.more
        bv_omega
      refine .sampling (j + 1) ⟨hnext, hcap, ?_, hccr, old, hshift⟩ rfl ?_ hup
      · dsimp only
        bv_omega
      · rw [samplePoint] at hlow
        exact (Nat.le_add_right _ _).trans hlow
    · have hj : 1 + j = 8 := by simpa [hlast] using hcount
      obtain rfl : j = 7 := by omega
      rw [samplePoint] at hlow
      refine .received rfl rfl ?_ rfl ?_ (by omega)
      · exact hshift.trans (foldl_shiftIn_firstBits old b)
      · exact hfall (by omega)
  | received _ hifg => simp [hifg] at hset

/-! ### The loop, operation by operation -/

/-- `n` ticks after the CTX_SEND of `b` in `s`: the transmitter is on the waveform, and the receiver is in a phase of
the reception. Past the tick at which the last data bit begins, no falling edge is left. -/
structure LoopedBack (s : State) (b : Byte) (n : Nat) (u : State) : Prop where
  clocked : Clocked s n u
  waveform : OnWaveform s b n u
  reception : Reception s b n u
  settled : 10 * bitTicks s < n → NoFall s b n u

/-- The premises of R157 on one operation: no handler is late, and RXIN follows TXOUT. -/
def loopStep (i : Instr) (u : State) : Bool := (txInTime i u && rxInTime i u) && wireFollows i u

/-- What one operation makes of the receiver, while the line is on the waveform. -/
theorem LoopedBack.exec_receiver (hu : LoopedBack s b n u) (hleast : 2 ≤ bitTicks s) (hmost : bitTicks s ≤ 43690)
    (hintime : rxInTime i u = true) (hwire : wireFollows i u = true) (h : exec i u = .next v) (hreset : i ≠ .reset)
    (hread : i ≠ .rxRead) : Reception s b (n + ticksOf [i]) v ∧
      (10 * bitTicks s < n + ticksOf [i] → NoFall s b (n + ticksOf [i]) v) := by
  have hpos : 0 < bitTicks s := by omega
  have hout := hu.waveform.txout_eq hpos
  by_cases htick : i = .tick
  · subst htick
    have hfollow : u.rxin = characterLevel b (n / bitTicks s) := by simpa [wireFollows, hout] using hwire
    refine ⟨hu.reception.tick hu.clocked hleast hmost hfollow hintime h, fun hlast hmark => ?_⟩
    obtain rfl := Host.Outcome.next.inj ((execTick_eq u).symm.trans h)
    exact characterLevel_succ_div hpos (Nat.le_of_lt_succ hlast) (hfollow.symm.trans hmark)
  rw [ticksOf_singleton_of_ne htick, Nat.add_zero]
  by_cases hisr : i = .rxIsr
  · subst hisr
    have hin : v.rxin = u.rxin := by
      obtain ⟨-, -, ⟨-, rfl⟩ | ⟨-, -, rfl⟩ | ⟨-, -, rfl⟩⟩ := execRxIsr_next h <;> rfl
    exact ⟨hu.reception.rxIsr hu.clocked hu.settled hleast h, fun hlast => (hu.settled hlast).congr hin⟩
  by_cases hline : ∃ level, i = .rxLine level
  · obtain ⟨level, rfl⟩ := hline
    obtain rfl : level = characterLevel b (n / bitTicks s) := by simpa [wireFollows, hout] using hwire
    refine ⟨hu.reception.rxLine hu.clocked hleast h, fun _ hmark => ?_⟩
    obtain rfl := Host.Outcome.next.inj ((execRxLine_eq _ u).symm.trans h)
    exact hmark
  · have hsame := exec_sameReceiver h htick hisr (not_exists.1 hline) hreset hread
    exact ⟨hu.reception.congr hsame, fun hlast => (hu.settled hlast).congr hsame.rxin⟩

theorem exec_loopedBack (hu : LoopedBack s b n u) (hleast : 2 ≤ bitTicks s) (hmost : bitTicks s ≤ 43690)
    (hstep : loopStep i u = true) (h : exec i u = .next v) (hsend : i ≠ .ctxSend) (hreset : i ≠ .reset)
    (hread : i ≠ .rxRead) : LoopedBack s b (n + ticksOf [i]) v := by
  simp only [loopStep, Bool.and_eq_true] at hstep
  obtain ⟨⟨htx, hrx⟩, hwire⟩ := hstep
  obtain ⟨hreception, hsettled⟩ := hu.exec_receiver hleast hmost hrx hwire h hreset hread
  have hwaveform := exec_onWaveform hu.waveform (by omega) (by omega) htx h hsend hreset
  exact ⟨exec_clocked hu.clocked h hreset, hwaveform, hreception, hsettled⟩

/-- After the CTX_SEND on an idle loop the receiver waits for the start edge. -/
theorem exec_ctxSend_loopedBack {who : Who} {later : List Byte} {below : List Context}
    (hctx : s.ctx = ⟨who, b :: later⟩ :: below) (hmark : s.txout = true) (hcap : s.rxcap = true)
    (hin : s.rxin = true) (hifg : s.rxifg = false) (h : exec .ctxSend s = .next u) : LoopedBack s b 0 u := by
  obtain ⟨who', b', later', below', hctx', hstart, hclear, hout⟩ := exec_ctxSend_sending h
  obtain ⟨⟨-, rfl, -⟩, -⟩ : (who = who' ∧ b = b' ∧ later = later') ∧ below = below' := by simpa [hctx] using hctx'
  have hsame : SameReceiver s u := exec_sameReceiver h (by decide) (by decide) (by simp) (by decide) (by decide)
  refine ⟨⟨hstart.params, hstart.cnt⟩, .inl ⟨0, hstart, by simp [hclear], by simp [hout, hmark, characterLevel]⟩,
    .waiting (hsame.rxcap.trans hcap) (hsame.rxifg.trans hifg) (hsame.rxin.trans hin) (Nat.zero_le _), fun hlast => ?_⟩
  exact absurd hlast (Nat.not_lt_zero _)

/-- From the stop bit on, a receiver with nothing pending has stored the byte. -/
theorem Reception.stored (hr : Reception s b n u) (hleast : 2 ≤ bitTicks s) (hn : 11 * bitTicks s ≤ n)
    (hserved : u.rxifg = false) : u.rxbuf = b ∧ u.rxfull = true := by
  cases hr with
  | waiting _ _ _ hup => omega
  | captured _ hifg => simp [hserved] at hifg
  | sampling j hbits _ _ hup =>
    have hlast : (j + 3) * bitTicks s ≤ 10 * bitTicks s := Nat.mul_le_mul_right _ (by have := hbits.more; omega)
    rw [samplePoint, halfTicks] at hup
    omega
  | sampled _ _ hifg => simp [hserved] at hifg
  | received _ _ hbuf hfull => exact ⟨hbuf, hfull⟩

theorem everyStep_and {p q : Instr → State → Bool} {ops : List Instr} (hp : everyStep p ops s = true)
    (hq : everyStep q ops s = true) : everyStep (fun i u => p i u && q i u) ops s = true := by
  induction ops generalizing s with
  | nil => rfl
  | cons i ops ih =>
    rw [everyStep, Bool.and_eq_true] at hp hq ⊢
    obtain ⟨hpfirst, hprest⟩ := hp
    obtain ⟨hqfirst, hqrest⟩ := hq
    refine ⟨by rw [hpfirst, hqfirst]; rfl, ?_⟩
    cases h : exec i s with
    | next u =>
      rw [h] at hprest hqrest
      exact ih hprest hqrest
    | fault _ => rfl
    | refused _ => rfl

end

/-- Settles O23: the CTX_SEND starts the loop, every operation in time keeps it, and past eleven bit periods the
reception is over. -/
theorem loopbackReconstructsEveryByte : Obligations.LoopbackReconstructsEveryByte := by
  intro s t who b later below ops hperiod hctx _ hmark _ hcap hin hifg hreset hsend hread hrun hlatency hwire hlong
    hserved
  obtain ⟨hleast, hmost⟩ := (admittedPeriod_iff _).1 hperiod
  obtain ⟨u, hu, hrun⟩ := runOps_cons_next hrun
  have hall : everyStep loopStep (.ctxSend :: ops) s = true := everyStep_and hlatency hwire
  rw [everyStep_cons hu, Bool.and_eq_true] at hall
  have hend : LoopedBack s b (0 + ticksOf ops) t := runOps_keeps
    (fun i hi n u v hu hp h => exec_loopedBack hu hleast hmost hp h (ne_of_mem_of_not_mem hi hsend)
      (ne_of_mem_of_not_mem hi hreset) (ne_of_mem_of_not_mem hi hread))
    (exec_ctxSend_loopedBack hctx hmark hcap hin hifg hu) hrun hall.2
  rw [Nat.zero_add] at hend
  exact hend.reception.stored hleast hlong hserved

end Sys2Proof.Machine
end

section
/-! The framer (43_framer.md R180 to R182, R184): what CHECKSUM, FRAME_BUILD and FG_FRAME do, with their descriptors,
and the laws of a frame. -/

namespace Sys2Proof.Machine

/-! ### Frames -/

/-- What FRAME_BUILD answers is the layout of the table of 30_encoding.md R85. -/
theorem buildFrame_eq_some_iff_frameLayout (payload f : List Byte) :
    buildFrame payload = some f ↔ (1 ≤ payload.length ∧ payload.length ≤ 256) ∧ f = frameLayout payload :=
  buildFrame_eq_some_iff payload f

theorem buildFrame_of_admitted {payload : List Byte} (h : 1 ≤ payload.length ∧ payload.length ≤ 256) :
    buildFrame payload = some (frameLayout payload) :=
  (buildFrame_eq_some_iff_frameLayout payload _).2 ⟨h, rfl⟩

theorem frameLayout_length (payload : List Byte) : (frameLayout payload).length = payload.length + 3 := by
  simp [frameLayout]

theorem lengthField_toNat {payload : List Byte} (h : payload.length ≤ 256) :
    (lengthField payload).toNat = payload.length - 1 := by
  rw [lengthField, BitVec.toNat_ofNat, Nat.mod_eq_of_lt (by omega)]

/-- The checksum cancels the XOR of the bytes it stands behind. -/
theorem xorBytes_append_checksum (xs : List Byte) : xorBytes (xs ++ [xorBytes xs]) = 0 := by
  rw [xorBytes_append, show xorBytes [xorBytes xs] = xorBytes xs from BitVec.zero_xor, BitVec.xor_self]
  rfl

/-- A frame shows its payload: it stands between the two bytes before it and the checksum. -/
theorem frameLayout_injective : Function.Injective frameLayout := by
  intro p q h
  have hbody : frameBody p = frameBody q := List.append_inj_left' h rfl
  exact (List.cons.inj (List.cons.inj hbody).2).2

/-! ### Descriptors with a count -/

/-- Format FR: the count stands in the last two places of the operand. -/
theorem operandBytes_ofNat {n : Nat} (hn : n < 65536) :
    operandBytes (BitVec.ofNat 32 n) = [0, 0, BitVec.ofNat 8 (n / 256), BitVec.ofNat 8 n] := by
  have hbyte (k : Nat) : (BitVec.ofNat 32 n).extractLsb' k 8 = BitVec.ofNat 8 (n / 2 ^ k) := by
    apply BitVec.eq_of_toNat_eq
    rw [BitVec.extractLsb'_toNat, BitVec.toNat_ofNat, BitVec.toNat_ofNat,
      Nat.mod_eq_of_lt (show n < 2 ^ 32 by omega), Nat.shiftRight_eq_div_pow]
  rw [operandBytes, hbyte, hbyte, hbyte, hbyte, Nat.div_eq_of_lt (b := 2 ^ 24) (by omega),
    Nat.div_eq_of_lt (b := 2 ^ 16) (by omega), Nat.pow_zero, Nat.div_one]
  rfl

/-- A word is decoded alone as it is at the front of a stream. -/
theorem decodeWord_eq_decode (code : Byte) (x : Operand) (rest : List Byte) :
    decodeWord code x rest = decode (code :: operandBytes x ++ rest) :=
  congrArg (decodeWord code · rest) (operandBytes_append x).symm

/-! ### The operations -/

section

variable {payload : List Byte} {s : State}

theorem execChecksum_of_le {xs : List Byte} (h : xs.length ≤ 256) :
    execChecksum xs s = .next (observe (.checksum (xorBytes xs)) s) :=
  if_pos ((checksumLengthOk_iff xs).2 h)

theorem execFrameBuild_of_admitted (h : 1 ≤ payload.length ∧ payload.length ≤ 256) :
    execFrameBuild payload s = .next (observe (.built (frameLayout payload)) s) := by
  rw [execFrameBuild, buildFrame_of_admitted h]

theorem execFrameBuild_of_not_admitted (h : ¬(1 ≤ payload.length ∧ payload.length ≤ 256)) :
    execFrameBuild payload s = .next (refuse .badPayloadLength s) := by
  rw [execFrameBuild, (buildFrame_eq_none_iff payload).2 h]

theorem execFgFrame_of_admitted (hempty : s.ctx = []) (h : 1 ≤ payload.length ∧ payload.length ≤ 256) :
    execFgFrame payload s = .next (sendFrame .FG (frameLayout payload) s) := by
  rw [execFgFrame, hempty, buildFrame_of_admitted h]
  rfl

theorem execFgFrame_of_not_admitted (hempty : s.ctx = []) (h : ¬(1 ≤ payload.length ∧ payload.length ≤ 256)) :
    execFgFrame payload s = .next (refuse .badPayloadLength s) := by
  rw [execFgFrame, hempty, (buildFrame_eq_none_iff payload).2 h]
  rfl

theorem execFgFrame_of_blocked (hctx : s.ctx ≠ []) : execFgFrame payload s = .fault .foregroundBlocked :=
  if_neg (mt List.isEmpty_iff.1 hctx)

end

/-! ### The statements -/

/-- Settles O25: the running XOR, the refused count, and the count laid out. -/
theorem checksumEvaluatesTheRunningXor : Obligations.ChecksumEvaluatesTheRunningXor := by
  refine ⟨fun xs s hxs => execChecksum_of_le hxs, fun x rest hx hcount => ?_, fun xs hxs => ?_⟩
  · exact ⟨_, (decodeWord_eq_decode _ _ _).trans (decode_badCount hx (.inl ⟨rfl, hcount⟩) rest)⟩
  · exact congrArg (0x82 :: · ++ xs) (operandBytes_ofNat (by omega))

/-- Settles O26: the frame or the refusal, and the count laid out. -/
theorem frameBuildEvaluatesTheFrame : Obligations.FrameBuildEvaluatesTheFrame := by
  refine ⟨fun p s hleast hmost => execFrameBuild_of_admitted ⟨hleast, hmost⟩,
    fun p s hp => execFrameBuild_of_not_admitted hp, fun p hp => ?_⟩
  exact congrArg (0x83 :: · ++ p) (operandBytes_ofNat (by omega))

/-- Settles O27: the push onto the empty stack, the fault of a preempted foreground, the two refusals, and the count
laid out. -/
theorem fgFramePushesTheFrame : Obligations.FgFramePushesTheFrame := by
  refine ⟨fun p s hleast hmost hempty => ?_, fun p s hctx => execFgFrame_of_blocked hctx,
    fun p s hempty hp => execFgFrame_of_not_admitted hempty hp, fun x rest hx hcount => ?_, fun p hp => ?_⟩
  · refine (execFgFrame_of_admitted hempty ⟨hleast, hmost⟩).trans ?_
    simp only [sendFrame, pushContext, observe, hempty]
  · exact ⟨_, (decodeWord_eq_decode _ _ _).trans (decode_badCount hx (.inr ⟨.inl rfl, hcount⟩) rest)⟩
  · exact congrArg (0x31 :: · ++ p) (operandBytes_ofNat (by omega))

/-- Settles O28: each law read off the layout of a frame. -/
theorem framesObeyTheFrameLaws : Obligations.FramesObeyTheFrameLaws := by
  constructor
  · intro payload f hf
    obtain ⟨⟨hleast, hmost⟩, rfl⟩ := (buildFrame_eq_some_iff_frameLayout payload f).1 hf
    refine ⟨frameLayout_length payload, xorBytes_append_checksum (frameBody payload), rfl, lengthField payload, rfl, ?_⟩
    rw [lengthField_toNat hmost, frameLayout_length]
    omega
  · intro p q f hp hq
    obtain ⟨-, rfl⟩ := (buildFrame_eq_some_iff_frameLayout p f).1 hp
    obtain ⟨-, hq⟩ := (buildFrame_eq_some_iff_frameLayout q _).1 hq
    exact frameLayout_injective hq

end Sys2Proof.Machine
end

section
/-! The bytes of a context (43_framer.md R183; 20_memory.md R62): CTX_SEND takes them one by one, and without a push
nothing else moves the stack. -/

namespace Sys2Proof.Machine

section

variable {i : Instr} {s t : State}

/-! ### The record of the send setups -/

theorem sentBytes_of_outputs_eq (h : t.outputs = s.outputs) : sentBytes t = sentBytes s := by
  rw [sentBytes, h, sentBytes]

theorem sentBytes_of_outputs_cons_sent {b : Byte} (h : t.outputs = .sent b :: s.outputs) :
    sentBytes t = sentBytes s ++ [b] := by
  rw [sentBytes, h, List.reverse_cons, List.filterMap_append]
  rfl

theorem sentBytes_of_outputs_cons {o : Output} (h : t.outputs = o :: s.outputs) (ho : ∀ b, o ≠ .sent b) :
    sentBytes t = sentBytes s := by
  rw [sentBytes, h, List.reverse_cons, List.filterMap_append]
  cases o with
  | sent b => exact absurd rfl (ho b)
  | _ => exact List.append_nil _

/-- Only CTX_SEND performs a send setup (R52): any other operation adds at most an observation of another kind. -/
theorem exec_sentBytes (h : exec i s = .next t) (hsend : i ≠ .ctxSend) : sentBytes t = sentBytes s := by
  cases i <;> simp only [exec] at h
  case tick =>
    rw [execTick_eq] at h
    cases h
    by_cases hmatch : s.cnt + 1 = s.txccr
    · by_cases hline : s.txout = s.txoutmod
      · exact sentBytes_of_outputs_eq ((if_pos hmatch).trans (if_pos hline))
      · exact sentBytes_of_outputs_cons ((if_pos hmatch).trans (if_neg hline)) nofun
    · exact sentBytes_of_outputs_eq (if_neg hmatch)
  case rxLine v => rw [execRxLine_eq] at h; cases h; rfl
  case rxRead => obtain ⟨-, rfl⟩ := execRxRead_next h; exact sentBytes_of_outputs_cons rfl nofun
  case torqueEdge => obtain rfl := execTorqueEdge_next h; rfl
  case calExpiry => obtain rfl := execCalExpiry_next h; rfl
  case modeEdge => obtain rfl := execModeEdge_next h; rfl
  case fgSend b => obtain ⟨-, rfl⟩ := execFgSend_next h; rfl
  case fgFrame p =>
    obtain ⟨-, ⟨f, -, rfl⟩ | ⟨-, rfl⟩⟩ := execFgFrame_next h <;> exact sentBytes_of_outputs_cons rfl nofun
  case reset => obtain rfl := execReset_next h; rfl
  case txIsr => obtain ⟨-, -, ⟨-, rfl⟩ | ⟨-, rfl⟩⟩ := execTxIsr_next h <;> rfl
  case rxIsr => obtain ⟨-, -, ⟨-, rfl⟩ | ⟨-, -, rfl⟩ | ⟨-, -, rfl⟩⟩ := execRxIsr_next h <;> rfl
  case torqueIsr =>
    obtain ⟨-, -, ⟨-, rfl⟩ | ⟨-, ⟨f, -, rfl⟩ | ⟨-, rfl⟩⟩⟩ := execTorqueIsr_next h
    · exact sentBytes_of_outputs_eq (by simp)
    · exact sentBytes_of_outputs_cons (o := .frame f) (by simp) nofun
    · exact sentBytes_of_outputs_cons rfl nofun
  case calIsr =>
    obtain ⟨-, -, -, ⟨f, -, rfl⟩ | ⟨-, rfl⟩⟩ := execCalIsr_next h <;> exact sentBytes_of_outputs_cons rfl nofun
  case ctxSend => exact absurd rfl hsend
  case elapsed x y => obtain rfl := execElapsed_next h; exact sentBytes_of_outputs_cons rfl nofun
  case txPack b => obtain rfl := execTxPack_next h; exact sentBytes_of_outputs_cons rfl nofun
  case checksum xs =>
    obtain ⟨-, rfl⟩ | ⟨-, rfl⟩ := execChecksum_next h <;> exact sentBytes_of_outputs_cons rfl nofun
  case frameBuild p =>
    obtain ⟨f, -, rfl⟩ | ⟨-, rfl⟩ := execFrameBuild_next h <;> exact sentBytes_of_outputs_cons rfl nofun
  case classify g => obtain rfl := execClassify_next h; exact sentBytes_of_outputs_cons rfl nofun

/-! ### A run that pushes nothing -/

theorem pushedContexts_eq_nil (hsend : ∀ b, i ≠ .fgSend b) (hframe : ∀ p, i ≠ .fgFrame p) (htorque : i ≠ .torqueIsr)
    (hcal : i ≠ .calIsr) : pushedContexts s i = [] := by
  cases i with
  | fgSend b => exact absurd rfl (hsend b)
  | fgFrame p => exact absurd rfl (hframe p)
  | torqueIsr => exact absurd rfl htorque
  | calIsr => exact absurd rfl hcal
  | _ => rfl

variable {who : Who} {bytes : List Byte}

/-- A CTX_SEND on the stack that holds the bytes still to be sent, if there are any, takes the first of them. -/
theorem exec_ctxSend_takes (hctx : s.ctx = nextByte who bytes []) (h : exec .ctxSend s = .next t) :
    ∃ b later, bytes = b :: later ∧ t.ctx = nextByte who later [] ∧ sentBytes t = sentBytes s ++ [b] := by
  obtain ⟨who', b, later, below, htop, -, rfl⟩ := execCtxSend_next h
  have hstack := hctx.symm.trans htop
  rw [nextByte_eq] at hstack
  split at hstack
  · cases hstack
  · cases hstack
    exact ⟨b, later, rfl, rfl, sentBytes_of_outputs_cons_sent rfl⟩

/-- After a run without RESET and without a push, as many bytes are set up as it has CTX_SENDs, and the others are still
to be sent. -/
theorem runOps_sends_in_order {ops : List Instr} (hctx : s.ctx = nextByte who bytes [])
    (hpush : ∀ i ∈ ops, i ≠ .reset ∧ ∀ u, pushedContexts u i = []) (h : runOps ops s = .next t) :
    ops.count .ctxSend ≤ bytes.length ∧ sentBytes t = sentBytes s ++ bytes.take (ops.count .ctxSend) ∧
      t.ctx = nextByte who (bytes.drop (ops.count .ctxSend)) [] := by
  induction ops generalizing s bytes with
  | nil =>
    cases h
    exact ⟨Nat.zero_le _, (List.append_nil _).symm, hctx⟩
  | cons i ops ih =>
    obtain ⟨u, hu, hrun⟩ := runOps_cons_next h
    obtain ⟨⟨hreset, hnone⟩, hrest⟩ := List.forall_mem_cons.1 hpush
    by_cases hsend : i = .ctxSend
    · subst hsend
      obtain ⟨b, later, rfl, hctx, hsent⟩ := exec_ctxSend_takes hctx hu
      obtain ⟨hcount, hsent', hend⟩ := ih hctx hrest hrun
      rw [List.count_cons_self]
      exact ⟨Nat.succ_le_succ hcount, by rw [hsent', hsent, List.append_assoc]; rfl, hend⟩
    · have hkeep : u.ctx = s.ctx := by rw [exec_ctx_eq_pushed hu hsend hreset, hnone, List.nil_append]
      rw [List.count_cons_of_ne hsend, ← exec_sentBytes hu hsend]
      exact ih (hkeep.trans hctx) hrest hrun

end

/-- Settles O29: no operation of the run resets or pushes, so its CTX_SENDs take the bytes one by one. -/
theorem frameBytesAreSentOnceInOrder : Obligations.FrameBytesAreSentOnceInOrder := by
  intro s t who bytes ops hctx hbytes hreset htorque hcal hsend hframe h
  have hstart : s.ctx = nextByte who bytes [] := by rw [hctx, nextByte_eq, if_neg hbytes]
  have hpush (i : Instr) (hi : i ∈ ops) : i ≠ .reset ∧ ∀ u, pushedContexts u i = [] :=
    ⟨ne_of_mem_of_not_mem hi hreset, fun _ => pushedContexts_eq_nil (fun b => ne_of_mem_of_not_mem hi (hsend b))
      (fun p => ne_of_mem_of_not_mem hi (hframe p)) (ne_of_mem_of_not_mem hi htorque) (ne_of_mem_of_not_mem hi hcal)⟩
  obtain ⟨hcount, hsent, hend⟩ := runOps_sends_in_order hstart hpush h
  refine ⟨hcount, hsent, ?_⟩
  rw [hend, nextByte_eq]
  exact if_congr (List.drop_eq_nil_iff.trans ⟨hcount.antisymm, Eq.ge⟩) rfl rfl

end Sys2Proof.Machine
end

section
/-! The capture engine, operation by operation (44_capture.md R200 to R202, R210, R215, R216): what the edges, the
expiry, CLASSIFY and the two handlers do and when a handler has no step, with their descriptors. -/

namespace Sys2Proof.Machine

/-! ### The operations without a handler -/

/-- Settles O31: the operation writes TQPEND alone, whatever it held. -/
theorem torqueEdgeSetsItsPendingBit : Obligations.TorqueEdgeSetsItsPendingBit :=
  ⟨fun _ => rfl, rfl⟩

theorem classifyGap_eq_ite (p : Params) (gap : Word) :
    classifyGap p gap = if p.maskTicks.toNat < gap.toNat then .newGroup else .sameGroup :=
  if_congr BitVec.lt_def rfl rfl

/-- Format W: the value stands in the last two places of the operand. -/
theorem operandBytes_setWidth_word (w : Word) :
    operandBytes (w.setWidth 32) = [0, 0, w.extractLsb' 8 8, w.extractLsb' 0 8] := by
  have happend : w.setWidth 32 = (0 : Word) ++ w := by
    apply BitVec.eq_of_toNat_eq
    rw [BitVec.toNat_append, BitVec.toNat_setWidth_of_le (by decide)]
    exact (Nat.zero_or _).symm
  rw [happend, operandBytes_append_words]
  rfl

/-- Settles O32: the class by value, and the gap laid out. -/
theorem classifyComparesWithTheMask : Obligations.ClassifyComparesWithTheMask := by
  refine ⟨fun gap s => ?_, fun gap => congrArg (fun bytes => 0x84 :: bytes ++ []) (operandBytes_setWidth_word gap)⟩
  rw [← classifyGap_eq_ite]
  rfl

theorem otherMode_ne (m : Mode) : otherMode m ≠ m := by
  cases m <;> nofun

theorem modeBit_eq_decide (m : Mode) : modeBit m = decide (m = .calibrationCapture) := by
  cases m <;> rfl

/-- Settles O36: the mode becomes the other one, and CALIE is its bit. -/
theorem modeEdgeTogglesWithoutFlush : Obligations.ModeEdgeTogglesWithoutFlush := by
  refine ⟨fun s => ⟨otherMode s.mode, otherMode_ne s.mode, ?_⟩, rfl⟩
  rw [← modeBit_eq_decide]
  rfl

/-- Settles O37: CALPEND takes CALIE in, so with CALIE = 0 it stays as it was. -/
theorem calExpirySetsCalpendWhenEnabled : Obligations.CalExpirySetsCalpendWhenEnabled := by
  refine ⟨fun s hie => ?_, fun s hie => ?_, rfl⟩
  · rw [exec, execCalExpiry, hie, Bool.or_true]
  · have hkeep : (s.calpend || s.calie) = s.calpend := by rw [hie, Bool.or_false]
    rw [exec, execCalExpiry, hkeep]

/-! ### CAL_ISR -/

section

variable {s : State}

theorem execCalIsr_of_admitted (hpend : s.calpend = true) (hie : s.calie = true) (hidle : ∀ c ∈ s.ctx, c.who ≠ .CAL)
    (hlen : 1 ≤ (calPayload s.params s.torqueticket).length ∧ (calPayload s.params s.torqueticket).length ≤ 256) :
    execCalIsr s = .next (sendFrame .CAL (frameLayout (calPayload s.params s.torqueticket))
      { s with calpend := false, indicator := !s.indicator, caloffset := s.torqueticket }) := by
  rw [execCalIsr, if_pos ((calibrationEnabled_iff s).2 ⟨hpend, hie, hidle⟩)]
  dsimp only [enterHandler]
  rw [buildFrame_of_admitted hlen]

theorem execCalIsr_of_not_admitted (hpend : s.calpend = true) (hie : s.calie = true)
    (hidle : ∀ c ∈ s.ctx, c.who ≠ .CAL)
    (hlen : ¬(1 ≤ (calPayload s.params s.torqueticket).length ∧
      (calPayload s.params s.torqueticket).length ≤ 256)) :
    execCalIsr s = .next (refuse .badPayloadLength s) := by
  rw [execCalIsr, if_pos ((calibrationEnabled_iff s).2 ⟨hpend, hie, hidle⟩)]
  dsimp only [enterHandler]
  rw [(buildFrame_eq_none_iff _).2 hlen]

end

/-- Settles O38: the frame or the refusal, and the fault of a handler that is not enabled. -/
theorem calIsrSnapshotsAndSends : Obligations.CalIsrSnapshotsAndSends :=
  ⟨fun _ hpend hie hidle => ⟨execCalIsr_of_admitted hpend hie hidle, execCalIsr_of_not_admitted hpend hie hidle⟩,
    fun s hdisabled => if_neg (mt (calibrationEnabled_iff s).1 hdisabled), rfl⟩

/-! ### TORQUE_ISR -/

theorem saturatingSucc_eq_ofNat (n : Word) : saturatingSucc n = BitVec.ofNat 16 (min (n.toNat + 1) 0xFFFF) := by
  rw [← saturatingSucc_toNat, BitVec.ofNat_toNat, BitVec.setWidth_eq]

theorem ushiftRight_one_eq_ofNat (w : Word) : w >>> 1 = BitVec.ofNat 16 (w.toNat / 2) := by
  apply BitVec.eq_of_toNat_eq
  rw [BitVec.toNat_ushiftRight, Nat.shiftRight_eq_div_pow, BitVec.toNat_ofNat, Nat.pow_one,
    Nat.mod_eq_of_lt (Nat.lt_of_le_of_lt (Nat.div_le_self _ 2) w.isLt)]

/-- The state TORQUE_ISR makes its sample of: entered, and the edge counted (R201). -/
def countedEdge (s : State) : State := countEdge (enterHandler .torque s)

theorem countedEdge_eq (s : State) :
    countedEdge s = { s with
      tqpend := false
      lastedge := s.cnt
      torqueticket := if s.params.maskTicks.toNat < (elapsedTicks s.cnt s.lastedge).toNat then s.torqueticket + 1
        else s.torqueticket
      pulsecount := if s.params.maskTicks.toNat < (elapsedTicks s.cnt s.lastedge).toNat then 1
        else saturatingSucc s.pulsecount } :=
  countEdge_eq (enterHandler .torque s)

@[simp] theorem countedEdge_params (s : State) : (countedEdge s).params = s.params := by
  rw [countedEdge_eq]

@[simp] theorem countedEdge_ctx (s : State) : (countedEdge s).ctx = s.ctx := by
  rw [countedEdge_eq]

@[simp] theorem countedEdge_refused (s : State) : (countedEdge s).refused = s.refused := by
  rw [countedEdge_eq]

@[simp] theorem countedEdge_tqpend (s : State) : (countedEdge s).tqpend = false := by
  rw [countedEdge_eq]

section

variable {s : State}

theorem countedEdge_of_newGroup (hgap : s.params.maskTicks.toNat < (elapsedTicks s.cnt s.lastedge).toNat) :
    countedEdge s = { s with
      tqpend := false, lastedge := s.cnt, torqueticket := s.torqueticket + 1, pulsecount := 1 } := by
  rw [countedEdge_eq, if_pos hgap, if_pos hgap]

theorem countedEdge_of_sameGroup (hgap : (elapsedTicks s.cnt s.lastedge).toNat ≤ s.params.maskTicks.toNat) :
    countedEdge s = { s with
      tqpend := false, lastedge := s.cnt, pulsecount := saturatingSucc s.pulsecount } := by
  rw [countedEdge_eq, if_neg (Nat.not_lt.2 hgap), if_neg (Nat.not_lt.2 hgap)]

/-- The body of an enabled TORQUE_ISR (R201) while the group has another count than 13. -/
theorem execTorqueIsr_of_ne (hpend : s.tqpend = true) (hidle : ∀ c ∈ s.ctx, c.who ≠ .TQ)
    (hcount : (countedEdge s).pulsecount ≠ 13) : execTorqueIsr s = .next (countedEdge s) :=
  (if_pos ((torqueEnabled_iff s).2 ⟨hpend, hidle⟩)).trans (if_neg hcount)

/-- The body of an enabled TORQUE_ISR (R201) on the group's 13th edge. -/
theorem execTorqueIsr_of_admitted (hpend : s.tqpend = true) (hidle : ∀ c ∈ s.ctx, c.who ≠ .TQ)
    (hcount : (countedEdge s).pulsecount = 13)
    (hlen : 1 ≤ (rotPayload s.params (rotationSample (countedEdge s))).length ∧
      (rotPayload s.params (rotationSample (countedEdge s))).length ≤ 256) :
    execTorqueIsr s = .next (sendFrame .TQ (frameLayout (rotPayload s.params (rotationSample (countedEdge s))))
      (recordRotation (countedEdge s))) := by
  refine (if_pos ((torqueEnabled_iff s).2 ⟨hpend, hidle⟩)).trans ((if_pos hcount).trans ?_)
  dsimp only [countedEdge] at hlen ⊢
  rw [buildFrame_of_admitted hlen]

/-- A rotation payload that has no frame refuses the whole step (60_exceptions.md R248). -/
theorem execTorqueIsr_of_not_admitted (hpend : s.tqpend = true) (hidle : ∀ c ∈ s.ctx, c.who ≠ .TQ)
    (hcount : (countedEdge s).pulsecount = 13)
    (hlen : ¬(1 ≤ (rotPayload s.params (rotationSample (countedEdge s))).length ∧
      (rotPayload s.params (rotationSample (countedEdge s))).length ≤ 256)) :
    execTorqueIsr s = .next (refuse .badPayloadLength s) := by
  refine (if_pos ((torqueEnabled_iff s).2 ⟨hpend, hidle⟩)).trans ((if_pos hcount).trans ?_)
  dsimp only [countedEdge] at hlen ⊢
  rw [(buildFrame_eq_none_iff _).2 hlen]

end

/-- Settles O33: the counted edge by value, with and without the rotation event, and the fault of a handler that is not
enabled. -/
theorem torqueIsrCountsAndEmits : Obligations.TorqueIsrCountsAndEmits := by
  refine ⟨fun s hpend hidle => ?_, fun s hdisabled => if_neg (mt (torqueEnabled_iff s).1 hdisabled), rfl⟩
  intro newGroup ticket count sample payload
  have hcounted : countedEdge s =
      { s with tqpend := false, lastedge := s.cnt, torqueticket := ticket, pulsecount := count } := by
    simp [countedEdge_eq, ticket, count, newGroup, saturatingSucc_eq_ofNat]
  have hsample : rotationSample (countedEdge s) = sample := by
    rw [hcounted, rotationSample, ushiftRight_one_eq_ofNat]
  refine ⟨fun hcount => ?_, fun hcount hlen => ?_, fun hcount hlen => ?_⟩
  · rw [← hcounted]
    exact execTorqueIsr_of_ne hpend hidle (by rwa [hcounted])
  · refine (execTorqueIsr_of_admitted hpend hidle (by rwa [hcounted]) (by rwa [hsample])).trans ?_
    rw [hsample, hcounted, hcount]
    rfl
  · exact execTorqueIsr_of_not_admitted hpend hidle (by rwa [hcounted]) (by rwa [hsample])

/-- Settles O35: a count of 13 or more only grows in its group, so it is not 13 after the edge. -/
theorem longGroupEmitsNoSecondSample : Obligations.LongGroupEmitsNoSecondSample := by
  intro s t hlong hgap h
  have hcounted := countedEdge_of_sameGroup hgap
  have hcount : 14 ≤ (saturatingSucc s.pulsecount).toNat := by
    rw [saturatingSucc_toNat]
    omega
  obtain ⟨-, -, ⟨-, ht⟩ | ⟨hthirteen, -⟩⟩ := execTorqueIsr_next h
  · obtain rfl := ht.trans hcounted
    exact ⟨rfl, rfl, rfl, rfl, Nat.le_of_succ_le hcount⟩
  · have hpulse : saturatingSucc s.pulsecount = 13 := (congrArg State.pulsecount hcounted).symm.trans hthirteen
    rw [hpulse] at hcount
    exact absurd hcount (by decide)

/-- Settles O56: an admitted payload always has its frame, and a frame leaves REFUSED alone. -/
theorem admittedBuildersAreNeverRefused : Obligations.AdmittedBuildersAreNeverRefused := by
  intro s hadmitted
  refine ⟨fun hpend hidle => ?_, fun hpend hie hidle => ?_⟩
  · by_cases hcount : (countedEdge s).pulsecount = 13
    · exact ⟨_, execTorqueIsr_of_admitted hpend hidle hcount (hadmitted.rotLength _), by simp, by simp⟩
    · exact ⟨_, execTorqueIsr_of_ne hpend hidle hcount, by simp, by simp⟩
  · exact ⟨_, execCalIsr_of_admitted hpend hie hidle (hadmitted.calLength _), rfl, rfl⟩

end Sys2Proof.Machine
end

section
/-! A group of torque edges (44_capture.md R201, R203(a)): what the pulse state and the emitted frames are after each
edge of a group, up to the 13th. -/

namespace Sys2Proof.Machine

section

variable {s t : State} {n gap : Nat} {ticket : Word}

/-! ### The record of the emitted frames -/

theorem emittedFrames_of_outputs_eq (h : t.outputs = s.outputs) : emittedFrames t = emittedFrames s := by
  rw [emittedFrames, h, emittedFrames]

theorem emittedFrames_of_outputs_cons_line {cnt : Word} {level : Bool} (h : t.outputs = .line cnt level :: s.outputs) :
    emittedFrames t = emittedFrames s := by
  rw [emittedFrames, h, List.reverse_cons, List.filterMap_append]
  exact List.append_nil _

theorem emittedFrames_of_outputs_cons_frame {f : List Byte} (h : t.outputs = .frame f :: s.outputs) :
    emittedFrames t = emittedFrames s ++ [f] := by
  rw [emittedFrames, h, List.reverse_cons, List.filterMap_append]
  rfl

/-- A tick observes at most a change of the line (R52). -/
theorem exec_tick_emittedFrames (h : exec .tick s = .next t) : emittedFrames t = emittedFrames s := by
  obtain rfl := Host.Outcome.next.inj (h.symm.trans (execTick_eq s))
  by_cases hmatch : s.cnt + 1 = s.txccr
  · by_cases hline : s.txout = s.txoutmod
    · exact emittedFrames_of_outputs_eq ((if_pos hmatch).trans (if_pos hline))
    · exact emittedFrames_of_outputs_cons_line ((if_pos hmatch).trans (if_neg hline))
  · exact emittedFrames_of_outputs_eq (if_neg hmatch)

/-! ### The gap before an edge -/

/-- What `gap` ticks make of the counter, and what they leave to the next edge (R50): the pulse state, CTX and the
frames. -/
structure AfterGap (gap : Nat) (s t : State) : Prop where
  params : t.params = s.params
  cnt : t.cnt = advance s.cnt gap
  pulsecount : t.pulsecount = s.pulsecount
  torqueticket : t.torqueticket = s.torqueticket
  lastedge : t.lastedge = s.lastedge
  lasttx : t.lasttx = s.lasttx
  rotcnt : t.rotcnt = s.rotcnt
  ctx : t.ctx = s.ctx
  frames : emittedFrames t = emittedFrames s

theorem AfterGap.tick (h : AfterGap gap s t) : ∃ u, exec .tick t = .next u ∧ AfterGap (gap + 1) s u := by
  obtain ⟨hparams, hcnt, hpulse, hticket, hedge, htx, hrot, hctx, hframes⟩ := h
  have htick := execTick_eq t
  refine ⟨_, htick, hparams, ?_, hpulse, hticket, hedge, htx, hrot, hctx,
    (exec_tick_emittedFrames htick).trans hframes⟩
  rw [advance_add, ← hcnt]
  rfl

theorem runOps_ticks_afterGap (s : State) (gap : Nat) :
    ∃ t, runOps (List.replicate gap .tick) s = .next t ∧ AfterGap gap s t := by
  induction gap with
  | zero => exact ⟨s, rfl, by constructor <;> simp [advance]⟩
  | succ gap ih =>
    obtain ⟨t, hrun, ht⟩ := ih
    obtain ⟨u, htick, hu⟩ := ht.tick
    exact ⟨u, by rw [List.replicate_succ', runOps_append hrun, runOps_cons htick]; rfl, hu⟩

/-- The run up to an edge's handler: the gap is over and the edge is pending. -/
theorem runOps_edgeAfter (s : State) (gap : Nat) : ∃ v, AfterGap gap s v ∧ v.tqpend = true ∧
    ∀ {u}, exec .torqueIsr v = .next u → runOps (edgeAfter gap) s = .next u := by
  obtain ⟨t, hrun, ht⟩ := runOps_ticks_afterGap s gap
  refine ⟨{ t with tqpend := true }, { ht with }, rfl, fun hisr => ?_⟩
  rw [edgeAfter, runOps_append hrun, runOps_cons rfl, runOps_cons hisr]
  rfl

/-- Since the edge at LASTEDGE = CNT, as many ticks have elapsed as the gap has. -/
theorem AfterGap.elapsedTicks_eq (h : AfterGap gap s t) (hedge : s.lastedge = s.cnt) (hgap : gap ≤ 0xFFFF) :
    (elapsedTicks t.cnt t.lastedge).toNat = gap := by
  rw [h.cnt, h.lastedge, hedge, advance_eq_ofNat, elapsedTicks_ofNat_add, BitVec.toNat_ofNat,
    Nat.mod_eq_of_lt (Nat.lt_succ_of_le hgap)]

/-! ### A group before and at its 13th edge -/

/-- `n` edges of a group are counted since `s`, with `ticket` in TORQUETICKET, and nothing is emitted. -/
structure GroupCounted (n : Nat) (ticket : Word) (s t : State) : Prop where
  params : t.params = s.params
  pulsecount : t.pulsecount.toNat = n
  torqueticket : t.torqueticket = ticket
  lastedge : t.lastedge = t.cnt
  lasttx : t.lasttx = s.lasttx
  rotcnt : t.rotcnt = s.rotcnt
  ctx : t.ctx = []
  frames : emittedFrames t = emittedFrames s

/-- The sample's frame is emitted since `s`, once, and it is being sent. -/
structure GroupEmitted (ticket : Word) (s t : State) : Prop where
  pulsecount : t.pulsecount.toNat = 13
  torqueticket : t.torqueticket = 0
  frame : ∃ f, t.ctx = [⟨.TQ, f⟩] ∧ emittedFrames t = emittedFrames s ++ [f] ∧
    f = frameLayout (rotPayload s.params ⟨s.rotcnt + 1, ticket, elapsedTicks t.cnt s.lasttx >>> 1⟩)

/-- What the handler of the group's `n`-th edge leaves: the 13th is the one that emits (R203(a)). -/
structure GroupReached (n : Nat) (ticket : Word) (s t : State) : Prop where
  counted : n ≠ 13 → GroupCounted n ticket s t
  emitted : n = 13 → GroupEmitted ticket s t

theorem GroupReached.pulsecount (h : GroupReached n ticket s t) : t.pulsecount.toNat = n := by
  by_cases hn : n = 13
  · rw [(h.emitted hn).pulsecount, hn]
  · exact (h.counted hn).pulsecount

/-- An edge after a gap above MASK_TICKS is the first of a group, whatever the count was. -/
theorem AfterGap.newGroup {v : State} (h : AfterGap gap s v) (hedge : s.lastedge = s.cnt) (hempty : s.ctx = [])
    (hgap : s.params.maskTicks.toNat < gap) (hmost : gap ≤ 0xFFFF) :
    GroupCounted 1 (s.torqueticket + 1) s (countedEdge v) := by
  have hlarge : v.params.maskTicks.toNat < (elapsedTicks v.cnt v.lastedge).toNat := by
    rwa [h.elapsedTicks_eq hedge hmost, h.params]
  rw [countedEdge_of_newGroup hlarge]
  exact ⟨h.params, rfl, congrArg (· + 1) h.torqueticket, rfl, h.lasttx, h.rotcnt, h.ctx.trans hempty, h.frames⟩

/-- An edge after a gap at or below MASK_TICKS is one more of the group. -/
theorem GroupCounted.sameGroup {v : State} (h : GroupCounted n ticket s t) (hv : AfterGap gap t v)
    (hgap : gap ≤ s.params.maskTicks.toNat) (hn : n < 0xFFFF) :
    GroupCounted (n + 1) ticket s (countedEdge v) := by
  have hmask := s.params.maskTicks.isLt
  have hsmall : (elapsedTicks v.cnt v.lastedge).toNat ≤ v.params.maskTicks.toNat := by
    rwa [hv.elapsedTicks_eq h.lastedge (by omega), hv.params, h.params]
  rw [countedEdge_of_sameGroup hsmall]
  refine ⟨hv.params.trans h.params, ?_, hv.torqueticket.trans h.torqueticket, rfl, hv.lasttx.trans h.lasttx,
    hv.rotcnt.trans h.rotcnt, hv.ctx.trans h.ctx, hv.frames.trans h.frames⟩
  rw [saturatingSucc_toNat, hv.pulsecount, h.pulsecount]
  omega

/-- The rotation event of the 13th edge (R201) sends the frame of the group's sample. -/
theorem GroupCounted.emits (h : GroupCounted 13 ticket s t) :
    GroupEmitted ticket s (sendFrame .TQ (frameLayout (rotPayload s.params (rotationSample t))) (recordRotation t)) where
  pulsecount := h.pulsecount
  torqueticket := rfl
  frame := by
    refine ⟨_, congrArg (_ :: ·) h.ctx, ?_, ?_⟩
    · rw [emittedFrames_of_outputs_cons_frame (sendFrame_outputs ..), ← h.frames]
      rfl
    · simp [rotationSample, h.rotcnt, h.torqueticket, h.lasttx]

/-- The handler of the edge that makes the count `n` emits exactly when `n` is 13. -/
theorem GroupCounted.torqueIsr {v : State} (h : GroupCounted n ticket s (countedEdge v)) (hpend : v.tqpend = true)
    (hrot : ∀ x, 1 ≤ (rotPayload s.params x).length ∧ (rotPayload s.params x).length ≤ 256) :
    ∃ u, exec .torqueIsr v = .next u ∧ GroupReached n ticket s u := by
  have hparams : v.params = s.params := (countedEdge_params v).symm.trans h.params
  have hempty : v.ctx = [] := (countedEdge_ctx v).symm.trans h.ctx
  have hidle : ∀ c ∈ v.ctx, c.who ≠ .TQ := by simp [hempty]
  have hcount : (countedEdge v).pulsecount = 13 ↔ n = 13 := by rw [← BitVec.toNat_inj, h.pulsecount]; rfl
  by_cases hn : n = 13
  · subst hn
    have hisr := execTorqueIsr_of_admitted hpend hidle (hcount.2 rfl) (by rw [hparams]; exact hrot _)
    rw [hparams] at hisr
    exact ⟨_, hisr, absurd rfl, fun _ => h.emits⟩
  · exact ⟨_, execTorqueIsr_of_ne hpend hidle (mt hcount.1 hn), fun _ => h, fun he => absurd he hn⟩

variable {gaps : List Nat}

theorem runOps_smallGaps (h : GroupReached n ticket s t) (hlen : n + gaps.length ≤ 13)
    (hgaps : ∀ g ∈ gaps, g ≤ s.params.maskTicks.toNat)
    (hrot : ∀ x, 1 ≤ (rotPayload s.params x).length ∧ (rotPayload s.params x).length ≤ 256) :
    ∃ u, runOps (gaps.flatMap edgeAfter) t = .next u ∧ GroupReached (n + gaps.length) ticket s u := by
  induction gaps generalizing n t with
  | nil => exact ⟨t, rfl, h⟩
  | cons g gaps ih =>
    rw [List.length_cons] at hlen ⊢
    obtain ⟨hg, hgaps⟩ := List.forall_mem_cons.1 hgaps
    obtain ⟨v, hv, hpend, hrun⟩ := runOps_edgeAfter t g
    obtain ⟨u, hisr, hu⟩ := ((h.counted (by omega)).sameGroup hv hg (by omega)).torqueIsr hpend hrot
    obtain ⟨w, hrest, hw⟩ := ih hu (by omega) hgaps
    refine ⟨w, ?_, by rwa [Nat.add_right_comm] at hw⟩
    rw [List.flatMap_cons, runOps_append (hrun hisr), hrest]

end

/-- Settles O34: the group counts from 0, and reaches 13 with the 13th edge. -/
theorem thirteenSmallGapsEmitOneSample : Obligations.ThirteenSmallGapsEmitOneSample := by
  intro s gaps hpulse hedge hempty hlen hgaps hrot
  have hstart : GroupReached 0 s.torqueticket s s :=
    ⟨fun _ => ⟨rfl, by rw [hpulse]; rfl, rfl, hedge, rfl, rfl, hempty, rfl⟩, nofun⟩
  obtain ⟨t, hrun, ht⟩ := runOps_smallGaps hstart (by omega) hgaps hrot
  rw [Nat.zero_add] at ht
  refine ⟨t, hrun, ht.pulsecount, fun hfew => ?_, fun hall => (ht.emitted hall).frame⟩
  have hcounted := ht.counted hfew.ne
  exact ⟨hcounted.ctx, hcounted.frames⟩

/-- Settles O54: the first edge starts the group at 1, and the 12th small gap brings it to 13. -/
theorem newGroupEmitsAtItsThirteenthEdge : Obligations.NewGroupEmitsAtItsThirteenthEdge := by
  intro s first gaps hedge hempty hfirst hmost hlen hgaps hrot
  obtain ⟨v, hv, hpend, hrun⟩ := runOps_edgeAfter s first
  obtain ⟨u, hisr, hu⟩ := (hv.newGroup hedge hempty hfirst hmost).torqueIsr hpend hrot
  obtain ⟨t, hrest, ht⟩ := runOps_smallGaps hu (by omega) hgaps hrot
  rw [Nat.add_comm] at ht
  refine ⟨t, (runOps_append (hrun hisr)).trans hrest, ht.pulsecount, fun hfew => ?_, fun hall => ?_⟩
  · have hcounted := ht.counted (by omega)
    exact ⟨hcounted.ctx, hcounted.frames, hcounted.torqueticket⟩
  · have hemitted := ht.emitted (by omega)
    exact ⟨hemitted.torqueticket, hemitted.frame⟩

end Sys2Proof.Machine
end

section
/-! When a handler has a step (60_exceptions.md R242, R243): exactly while it is enabled. A handler whose frame is
refused has one too (R248). -/

namespace Sys2Proof.Machine

section

variable {s : State}

theorem execTxIsr_exists_next_iff : (∃ t, execTxIsr s = .next t) ↔ s.txifg = true ∧ s.txie = true := by
  refine ⟨fun ⟨t, h⟩ => ?_, fun ⟨hifg, hie⟩ => ?_⟩
  · obtain ⟨hifg, hie, -⟩ := execTxIsr_next h
    exact ⟨hifg, hie⟩
  · rw [execTxIsr_of_enabled hifg hie]
    split
    · exact ⟨_, rfl⟩
    · exact ⟨_, rfl⟩

theorem execRxIsr_exists_next_iff : (∃ t, execRxIsr s = .next t) ↔ s.rxifg = true ∧ s.rxie = true := by
  refine ⟨fun ⟨t, h⟩ => ?_, fun ⟨hifg, hie⟩ => ?_⟩
  · obtain ⟨hifg, hie, -⟩ := execRxIsr_next h
    exact ⟨hifg, hie⟩
  · cases hcap : s.rxcap with
    | true => exact ⟨_, execRxIsr_of_capture hifg hie hcap⟩
    | false =>
      rw [execRxIsr_of_sample hifg hie hcap]
      split
      · exact ⟨_, rfl⟩
      · exact ⟨_, rfl⟩

theorem execTorqueIsr_exists_next_iff :
    (∃ t, execTorqueIsr s = .next t) ↔ s.tqpend = true ∧ ∀ c ∈ s.ctx, c.who ≠ .TQ := by
  refine ⟨fun ⟨t, h⟩ => ?_, fun ⟨hpend, hidle⟩ => ?_⟩
  · obtain ⟨hpend, hidle, -⟩ := execTorqueIsr_next h
    exact ⟨hpend, hidle⟩
  · by_cases hcount : (countedEdge s).pulsecount = 13
    · by_cases hlen : 1 ≤ (rotPayload s.params (rotationSample (countedEdge s))).length ∧
          (rotPayload s.params (rotationSample (countedEdge s))).length ≤ 256
      · exact ⟨_, execTorqueIsr_of_admitted hpend hidle hcount hlen⟩
      · exact ⟨_, execTorqueIsr_of_not_admitted hpend hidle hcount hlen⟩
    · exact ⟨_, execTorqueIsr_of_ne hpend hidle hcount⟩

theorem execCalIsr_exists_next_iff :
    (∃ t, execCalIsr s = .next t) ↔ s.calpend = true ∧ s.calie = true ∧ ∀ c ∈ s.ctx, c.who ≠ .CAL := by
  refine ⟨fun ⟨t, h⟩ => ?_, fun ⟨hpend, hie, hidle⟩ => ?_⟩
  · obtain ⟨hpend, hie, hidle, -⟩ := execCalIsr_next h
    exact ⟨hpend, hie, hidle⟩
  · by_cases hlen : 1 ≤ (calPayload s.params s.torqueticket).length ∧
        (calPayload s.params s.torqueticket).length ≤ 256
    · exact ⟨_, execCalIsr_of_admitted hpend hie hidle hlen⟩
    · exact ⟨_, execCalIsr_of_not_admitted hpend hie hidle hlen⟩

end

/-- Settles O40: each handler's step gives its condition, and each way through an enabled body answers a next state. -/
theorem handlersStepExactlyWhenEnabled : Obligations.HandlersStepExactlyWhenEnabled :=
  fun _ => ⟨execTxIsr_exists_next_iff, execRxIsr_exists_next_iff, execTorqueIsr_exists_next_iff,
    execCalIsr_exists_next_iff⟩

end Sys2Proof.Machine
end

section
/-! The stack of sending contexts (60_exceptions.md R247, R252): what stays in it, and how many contexts it holds. -/

namespace Sys2Proof.Machine

/-- Taking the top context's first byte leaves every context below it (R247(d)). -/
theorem suffix_nextByte (who : Who) (later : List Byte) (below : List Context) : below <:+ nextByte who later below := by
  rw [nextByte_eq]
  split
  · exact List.suffix_rfl
  · exact List.suffix_cons _ _

/-- Settles O30: CTX_SEND takes a byte of the top context, and every other operation pushes above it or nothing. -/
theorem onlyTheTopContextMoves : Obligations.OnlyTheTopContextMoves := by
  intro i s t c below hctx h hreset
  by_cases hsend : i = .ctxSend
  · subst hsend
    obtain ⟨who, b, later, below', hctx', -, rfl⟩ := execCtxSend_next h
    obtain ⟨-, rfl⟩ := List.cons.inj (hctx.symm.trans hctx')
    obtain ⟨above, habove⟩ := suffix_nextByte who later below
    exact ⟨⟨above, habove.symm⟩, absurd rfl⟩
  · have hpush : t.ctx = pushedContexts s i ++ c :: below := hctx ▸ exec_ctx_eq_pushed h hsend hreset
    exact ⟨⟨pushedContexts s i ++ [c], by rw [hpush, List.append_assoc]; rfl⟩, fun _ => ⟨_, hpush⟩⟩

/-- There are three sources, and each has at most one context (10_state.md R45). -/
theorem ContextsOk.length_le_three {ctx : List Context} (h : ContextsOk ctx) : ctx.length ≤ 3 := by
  have hsources : ctx.map Context.who ⊆ [.FG, .TQ, .CAL] := by
    intro who _
    cases who <;> decide
  simpa using (List.subperm_of_subset h.distinct hsources).length_le

/-- Settles O45: the step keeps the invariants, which bound CTX. -/
theorem atMostThreeSendingContexts : Obligations.AtMostThreeSendingContexts :=
  fun s t hs h => (everyStepKeepsTheStateInvariants s t hs h).contexts.length_le_three

end Sys2Proof.Machine
end

section
/-! An instance whose T is not admitted (60_exceptions.md R241, code 5; 00_scope.md R8): every step of it is refused. -/

namespace Sys2Proof.Machine

/-- Settles O49: a step is an operation of an admitted instance or a refusal, and this instance is not admitted. -/
theorem inadmissibleBitPeriodRefusesEveryStep : Obligations.InadmissibleBitPeriodRefusesEveryStep := by
  intro s hperiod
  have hadmitted : ¬admittedPeriod s.params.bitPeriod = true := mt (admittedPeriod_iff _).1 hperiod
  refine ⟨fun t h => ?_, fun i rest hdecode => ?_⟩
  · obtain ⟨-, -, -, hyes, -⟩ | ⟨reason, rest, rfl⟩ := step_next h
    · exact absurd hyes hadmitted
    · exact ⟨rest, reason, rfl⟩
  · exact step_badParameter hdecode (Bool.eq_false_of_not_eq_true hadmitted)

end Sys2Proof.Machine
end

section
/-! A character served on time (60_exceptions.md R253; 41_uart_tx.md R128; 95_test_vectors.md, program A): each bit
period's last tick matches, and the TX_ISR after it programs the next bit or, the 11th time, disables the channel. -/

namespace Sys2Proof.Machine

/-- One bit period of T ticks, and the TX_ISR that serves its match. -/
def servedPeriod (T : Nat) : List Instr := List.replicate T .tick ++ [.txIsr]

theorem exec_tick_exists_next (s : State) : ∃ t, exec .tick s = .next t :=
  ⟨_, execTick_eq s⟩

theorem runOps_replicate_succ {i : Instr} {k : Nat} {s u v : State} (hrun : runOps (List.replicate k i) s = .next u)
    (h : exec i u = .next v) : runOps (List.replicate (k + 1) i) s = .next v := by
  rw [List.replicate_succ', runOps_append hrun, runOps_cons h]
  rfl

section

variable {s u : State} {b : Byte} {m n : Nat}

theorem Sending.runOps_ticks (hu : Sending s b m n u) (k : Nat) :
    ∃ v, runOps (List.replicate k .tick) u = .next v ∧ Sending s b m (n + k) v := by
  induction k with
  | zero => exact ⟨u, rfl, hu⟩
  | succ k ih =>
    obtain ⟨v, hrun, hv⟩ := ih
    obtain ⟨w, htick⟩ := exec_tick_exists_next v
    exact ⟨w, runOps_replicate_succ hrun htick, (hv.tick htick).1⟩

/-- The last tick of a bit period is its match: it enables TX_ISR, and the line takes the level programmed last. -/
theorem Sending.runOps_period (hu : Sending s b m (m * bitTicks s) u) (hpos : 0 < bitTicks s) :
    ∃ v, runOps (List.replicate (bitTicks s) .tick) u = .next v ∧ Sending s b m ((m + 1) * bitTicks s) v ∧
      v.txifg = true ∧ v.txout = characterLevel b (m + 1) := by
  obtain ⟨k, hk⟩ := Nat.exists_eq_add_one_of_ne_zero hpos.ne'
  obtain ⟨v, hrun, hv⟩ := hu.runOps_ticks k
  obtain ⟨w, htick⟩ := exec_tick_exists_next v
  have hlast : m * bitTicks s + k + 1 = (m + 1) * bitTicks s := by rw [Nat.succ_mul, hk, Nat.add_assoc]
  obtain ⟨hw, hifg, hout⟩ := hv.tick htick
  rw [hlast] at hw hifg hout
  refine ⟨w, ?_, hw, by simpa using hifg, by simpa using hout⟩
  rw [hk]
  exact runOps_replicate_succ hrun htick

/-- A served bit period ends with a TX_ISR that has a step (R243). -/
theorem Sending.runOps_servedPeriod (hu : Sending s b m (m * bitTicks s) u) (hpos : 0 < bitTicks s) :
    ∃ v w, Sending s b m ((m + 1) * bitTicks s) v ∧ v.txout = characterLevel b (m + 1) ∧ exec .txIsr v = .next w ∧
      runOps (servedPeriod (bitTicks s)) u = .next w := by
  obtain ⟨v, hrun, hv, hifg, hout⟩ := hu.runOps_period hpos
  obtain ⟨w, hw⟩ := execTxIsr_exists_next_iff.2 ⟨hifg, hv.txie⟩
  exact ⟨v, w, hv, hout, hw, (runOps_append hrun).trans (runOps_cons hw)⟩

/-- Up to ten served bit periods program a bit each. -/
theorem Sending.runOps_servedPeriods (hu : Sending s b 0 0 u) (hpos : 0 < bitTicks s) (hm : m ≤ 10) :
    ∃ v, runOps (List.replicate m (servedPeriod (bitTicks s))).flatten u = .next v ∧
      Sending s b m (m * bitTicks s) v := by
  induction m with
  | zero => exact ⟨u, rfl, by rwa [Nat.zero_mul]⟩
  | succ m ih =>
    obtain ⟨v, hrun, hv⟩ := ih (by omega)
    obtain ⟨x, w, hx, -, hisr, hperiod⟩ := hv.runOps_servedPeriod hpos
    obtain ⟨-, -, -, hw | ⟨hlast, -⟩⟩ := hx.txIsr hisr
    · refine ⟨w, ?_, hw⟩
      rw [List.replicate_succ', List.flatten_append, runOps_append hrun, List.flatten_singleton, hperiod]
    · omega

end

/-- Settles O16: ten served bit periods program the ten bits, and the 11th disables the channel with the stop bit on the
line. -/
theorem characterCompletesWhenServed : Obligations.CharacterCompletesWhenServed := by
  intro s who b later below hperiod hctx hidle
  obtain ⟨hleast, -⟩ := (admittedPeriod_iff _).1 hperiod
  have hpos : 0 < bitTicks s := Nat.lt_of_lt_of_le (by decide) hleast
  obtain ⟨hsetup, -⟩ := ctxSendSetsUpTheNextByte
  have hsend := hsetup s who b later below hctx hidle
  obtain ⟨-, b', -, -, -, hstart, -⟩ := exec_ctxSend_sending hsend
  obtain ⟨u, hrun, hu⟩ := hstart.runOps_servedPeriods hpos (le_refl 10)
  obtain ⟨v, t, hv, hout, hisr, hlast⟩ := hu.runOps_servedPeriod hpos
  refine ⟨t, ?_, ?_⟩
  · rw [runOps_cons hsend, List.replicate_succ', List.flatten_append, List.flatten_singleton]
    exact (runOps_append hrun).trans hlast
  · have hnone : v.txbitcnt = 0 := BitVec.eq_of_toNat_eq (Nat.add_right_cancel (m := 10) hv.txbitcnt)
    have hmark : characterLevel b' 11 = true := characterLevel_of_le b' le_rfl
    obtain ⟨-, -, ⟨-, rfl⟩ | ⟨hleft, -⟩⟩ := execTxIsr_next hisr
    · have hshifted : v.txshift = 0 := hv.txshift.trans (BitVec.ushiftRight_eq_zero le_rfl)
      refine ⟨rfl, hout.trans hmark, hv.txoutmod.trans hmark, hnone, hshifted, ?_, ?_⟩
      · rw [hv.cnt, advance_toNat]
      · rw [hv.txccr_succ, advance_toNat]
    · exact absurd hnone hleft

end Sys2Proof.Machine
end

section
/-! RESET as an operation (70_reset_and_hazards.md R280): from every state it leaves the table of 10_state.md R49. -/

namespace Sys2Proof.Machine

@[simp] theorem exec_reset (s : State) : exec .reset s = .next (resetBlock s) := rfl

/-- Settles O1: RESET answers `resetBlock`, which holds the table and keeps what is not the block's. -/
theorem resetGivesEveryElementItsTableValue : Obligations.ResetGivesEveryElementItsTableValue :=
  ⟨fun s => ⟨resetBlock s, exec_reset s, resetBlock_resetTable s, resetBlock_refused s, resetBlock_params s,
    resetBlock_script s, resetBlock_outputs s⟩, by decide⟩

end Sys2Proof.Machine
end
